-- ==== Sys2Proof/Word.lean ====
section
/-! DEFINITION. The two word types of the block: the u8 and the u16 of 00_scope.md rule R7. -/

namespace Sys2Proof

/-- An unsigned 8-bit value (R7: u8): a data byte, A, X, Y, fetchedOperand, a header byte. -/
abbrev Byte := BitVec 8

/-- An unsigned 16-bit value (R7: u16): an address, PC, absoluteAddress, relativeOffset.
Sums and differences wrap modulo 65536 (R8). -/
abbrev Word := BitVec 16

end Sys2Proof
end

