-- ==== Sys2Proof/Syntax.lean ====
section
/-! DEFINITION. The transactions: the raw tuple of the transaction port (30_encoding.md R90) and the one
inductive Instr with a constructor for each of the 25 codes of R92. -/

namespace Sys2Proof

/-- What the consumer puts on the transaction port (R90): a u8 code, a u16 address operand, a u8 data
operand and a finite byte sequence. A code that does not use an operand ignores it. -/
structure Transaction where
  code   : Byte
  addr   : Word
  data   : Byte
  stream : List Byte
deriving DecidableEq, Repr, Inhabited

/-- The 25 transactions of R92, each with exactly the operands it uses. -/
inductive Instr where
  /-- 0x00 IMP, Implied (R263); it also serves accumulator addressing (R277). -/
  | imp
  /-- 0x01 IMM, Immediate (R264). -/
  | imm
  /-- 0x02 ZP0, ZeroPage (R265). -/
  | zp0
  /-- 0x03 ZPX, ZeroPage+X (R266). -/
  | zpx
  /-- 0x04 ZPY, ZeroPage+Y (R267). -/
  | zpy
  /-- 0x05 ABS, Absolute (R268). -/
  | abs
  /-- 0x06 ABX, Absolute+X (R269). -/
  | abx
  /-- 0x07 ABY, Absolute+Y (R271). -/
  | aby
  /-- 0x08 IND, Indirect (R272). -/
  | ind
  /-- 0x09 IZX, Indirect,X (R273). -/
  | izx
  /-- 0x0A IZY, Indirect,Y (R274). -/
  | izy
  /-- 0x0B REL, Relative (R275). -/
  | rel
  /-- 0x10 BUS_RD (R250). -/
  | busRd (addr : Word)
  /-- 0x11 BUS_WR (R251). -/
  | busWr (addr : Word) (data : Byte)
  /-- 0x20 PRG_RD (R160). -/
  | prgRd (addr : Word)
  /-- 0x21 CHR_RD (R160). -/
  | chrRd (addr : Word)
  /-- 0x22 PRG_WR (R160). -/
  | prgWr (addr : Word) (data : Byte)
  /-- 0x23 CHR_WR (R160). -/
  | chrWr (addr : Word) (data : Byte)
  /-- 0x24 GET_MIRR (R166, R198). -/
  | getMirr
  /-- 0x25 HAS_XRAM (R167). -/
  | hasXram
  /-- 0x26 SCANLINE (R168). -/
  | scanline
  /-- 0x30 LOAD (R131). -/
  | load (stream : List Byte)
  /-- 0x31 MAP_NEW (R161). -/
  | mapNew
  /-- 0x32 MAP_NEW_NULL (R164). -/
  | mapNewNull
  /-- 0x33 CB_SET (R179). -/
  | cbSet (data : Byte)
deriving DecidableEq, Repr

/-- A `.reg` line of a transaction script (R113): the registers the consumer sets before the next
transaction. A register the line does not name keeps its value. It is no transaction. -/
structure RegLine where
  pc              : Option Word := none
  a               : Option Byte := none
  x               : Option Byte := none
  y               : Option Byte := none
  absoluteAddress : Option Word := none
  relativeOffset  : Option Word := none
  fetchedOperand  : Option Byte := none
deriving DecidableEq, Repr, Inhabited

/-- One line of a transaction script: "Every script line is either one transaction of rule R92 or a
`.reg` start-state line" (R115). -/
inductive ScriptLine where
  | transaction (t : Transaction)
  | reg (r : RegLine)
deriving DecidableEq, Repr

end Sys2Proof
end

