-- ==== Sys2Proof/WellFormed.lean ====
section
/-! DEFINITION. When a raw transaction is written as R113 writes it: its code is one of R92's, and an
operand field the code does not use is zero (the stream field: empty). The operands of an Instr are
bounded by their types, so every Instr is well-formed as it stands; the port accepts a transaction that
is not well-formed too (R90: an unused operand is ignored; R94: a reserved code is refused). -/

namespace Sys2Proof

/-- The codes of R92 that use the addr operand: BUS_RD, BUS_WR and the four mapper data ports. -/
def usesAddr (code : Byte) : Bool :=
  code == 0x10#8 || code == 0x11#8 || code == 0x20#8 || code == 0x21#8 || code == 0x22#8 || code == 0x23#8

/-- The codes of R92 that use the data operand: BUS_WR, PRG_WR, CHR_WR and CB_SET. -/
def usesData (code : Byte) : Bool :=
  code == 0x11#8 || code == 0x22#8 || code == 0x23#8 || code == 0x33#8

/-- The code of R92 that uses the stream operand: LOAD alone. -/
def usesStream (code : Byte) : Bool :=
  code == 0x30#8

/-- "The codes run from 0x00 to 0x0B, 0x10 to 0x11, 0x20 to 0x26 and 0x30 to 0x33." (R92) -/
def codeAssigned (code : Byte) : Bool :=
  code.toNat ≤ 0x0B || (0x10 ≤ code.toNat && code.toNat ≤ 0x11) ||
    (0x20 ≤ code.toNat && code.toNat ≤ 0x26) || (0x30 ≤ code.toNat && code.toNat ≤ 0x33)

/-- The written form of R113: an assigned code, and zero (an empty stream) in every field it does not use. -/
def Transaction.wellFormed (t : Transaction) : Bool :=
  codeAssigned t.code &&
    (usesAddr t.code || t.addr == 0#16) &&
    (usesData t.code || t.data == 0#8) &&
    (usesStream t.code || t.stream.isEmpty)

end Sys2Proof
end

