-- ==== Sys2Proof/Decode.lean ====
section
/-! DEFINITION. The decoder of the transaction port (30_encoding.md R90 to R94), total on every tuple,
and the encoder after it. -/

namespace Sys2Proof

/-- Why the decoder gives no instruction. -/
inductive DecodeError where
  /-- The code is one of R94's reserved codes. -/
  | reservedCode (code : Byte)
deriving DecidableEq, Repr

/-- Bits [7:4] of the code (R91). -/
def unitOf (code : Byte) : BitVec 4 := code.extractLsb' 4 4

/-- Bits [3:0] of the code (R91). -/
def funcOf (code : Byte) : BitVec 4 := code.extractLsb' 0 4

/-- Unit 0x0 RESOLVE (R91, R92): the twelve resolvers. -/
def decodeResolve (func : BitVec 4) : Option Instr :=
  match func.toNat with
  | 0x0 => some .imp
  | 0x1 => some .imm
  | 0x2 => some .zp0
  | 0x3 => some .zpx
  | 0x4 => some .zpy
  | 0x5 => some .abs
  | 0x6 => some .abx
  | 0x7 => some .aby
  | 0x8 => some .ind
  | 0x9 => some .izx
  | 0xA => some .izy
  | 0xB => some .rel
  | _ => none

/-- Unit 0x1 BUS (R91, R92). -/
def decodeBus (func : BitVec 4) (t : Transaction) : Option Instr :=
  match func.toNat with
  | 0x0 => some (.busRd t.addr)
  | 0x1 => some (.busWr t.addr t.data)
  | _ => none

/-- Unit 0x2 MAPPER (R91, R92): the seven ports of the mapper contract. -/
def decodeMapper (func : BitVec 4) (t : Transaction) : Option Instr :=
  match func.toNat with
  | 0x0 => some (.prgRd t.addr)
  | 0x1 => some (.chrRd t.addr)
  | 0x2 => some (.prgWr t.addr t.data)
  | 0x3 => some (.chrWr t.addr t.data)
  | 0x4 => some .getMirr
  | 0x5 => some .hasXram
  | 0x6 => some .scanline
  | _ => none

/-- Unit 0x3 CONFIG (R91, R92): loader, mapper construction, callback registration. -/
def decodeConfig (func : BitVec 4) (t : Transaction) : Option Instr :=
  match func.toNat with
  | 0x0 => some (.load t.stream)
  | 0x1 => some .mapNew
  | 0x2 => some .mapNewNull
  | 0x3 => some (.cbSet t.data)
  | _ => none

/-- The instruction of an assigned code; units 0x4 to 0xF are reserved (R91). -/
def decodeAssigned (t : Transaction) : Option Instr :=
  match (unitOf t.code).toNat with
  | 0x0 => decodeResolve (funcOf t.code)
  | 0x1 => decodeBus (funcOf t.code) t
  | 0x2 => decodeMapper (funcOf t.code) t
  | 0x3 => decodeConfig (funcOf t.code) t
  | _ => none

/-- The transaction port's decoder: an instruction of R92, or the reserved code it met (R94). -/
def decode (t : Transaction) : Except DecodeError Instr :=
  match decodeAssigned t with
  | some i => .ok i
  | none => .error (.reservedCode t.code)

/-- The written form of an instruction (R92, R113): its code, its operands, and zero in every field it
does not use. -/
def encode : Instr → Transaction
  | .imp          => ⟨0x00#8, 0#16, 0#8, []⟩
  | .imm          => ⟨0x01#8, 0#16, 0#8, []⟩
  | .zp0          => ⟨0x02#8, 0#16, 0#8, []⟩
  | .zpx          => ⟨0x03#8, 0#16, 0#8, []⟩
  | .zpy          => ⟨0x04#8, 0#16, 0#8, []⟩
  | .abs          => ⟨0x05#8, 0#16, 0#8, []⟩
  | .abx          => ⟨0x06#8, 0#16, 0#8, []⟩
  | .aby          => ⟨0x07#8, 0#16, 0#8, []⟩
  | .ind          => ⟨0x08#8, 0#16, 0#8, []⟩
  | .izx          => ⟨0x09#8, 0#16, 0#8, []⟩
  | .izy          => ⟨0x0A#8, 0#16, 0#8, []⟩
  | .rel          => ⟨0x0B#8, 0#16, 0#8, []⟩
  | .busRd a      => ⟨0x10#8, a, 0#8, []⟩
  | .busWr a d    => ⟨0x11#8, a, d, []⟩
  | .prgRd a      => ⟨0x20#8, a, 0#8, []⟩
  | .chrRd a      => ⟨0x21#8, a, 0#8, []⟩
  | .prgWr a d    => ⟨0x22#8, a, d, []⟩
  | .chrWr a d    => ⟨0x23#8, a, d, []⟩
  | .getMirr      => ⟨0x24#8, 0#16, 0#8, []⟩
  | .hasXram      => ⟨0x25#8, 0#16, 0#8, []⟩
  | .scanline     => ⟨0x26#8, 0#16, 0#8, []⟩
  | .load stream  => ⟨0x30#8, 0#16, 0#8, stream⟩
  | .mapNew       => ⟨0x31#8, 0#16, 0#8, []⟩
  | .mapNewNull   => ⟨0x32#8, 0#16, 0#8, []⟩
  | .cbSet d      => ⟨0x33#8, 0#16, d, []⟩

/-- The transaction whose fields, laid out in R113's order `code addr data`, are the low `nbits` bits of
`w`: code in bits 7..0, addr in bits 23..8, data in bits 31..24. Every bit above `nbits` is 0, and the
stream, which has no bits in the opcode table, is empty. -/
def tableTransaction (nbits w : Nat) : Transaction :=
  { code   := BitVec.ofNat 8 (w % 2 ^ nbits)
    addr   := BitVec.ofNat 16 ((w % 2 ^ nbits) / 2 ^ 8)
    data   := BitVec.ofNat 8 ((w % 2 ^ nbits) / 2 ^ 24)
    stream := [] }

/-- What the decoder reads from an instruction whose bits are `w`, numbered as spec/opcode_table.json
numbers them. -/
def decodeTableWord (nbits w : Nat) : Option Instr :=
  match decode (tableTransaction nbits w) with
  | .ok i => some i
  | .error _ => none

end Sys2Proof
end

