-- ==== Sys2Proof/Config.lean ====
section
/-! DEFINITION. The OPEN parameters of 00_scope.md rule R6 and the types they need. Each parameter is
a constant with no body: nothing in Lean can evaluate it, so a theorem about it holds for every value. -/

namespace Sys2Proof

/-- The consumer's register block CpuRegisters (10_state.md R22 to R25). There is no status register,
no stack pointer and no other CPU register (R27). -/
structure CpuRegisters where
  /-- programCounter (R22): the address of the next operand byte. -/
  pc : Word
  /-- accumulator (R23). -/
  a : Byte
  /-- xIndex (R23). -/
  x : Byte
  /-- yIndex (R23). -/
  y : Byte
  /-- Scratch output of the Immediate, zero-page, absolute and indirect modes (R24). -/
  absoluteAddress : Word
  /-- Scratch output of the Relative mode (R24). -/
  relativeOffset : Word
  /-- Scratch output of the Implied mode (R25). -/
  fetchedOperand : Byte
deriving DecidableEq, Repr, Inhabited

/-- The two values AxROM's mirroringMode can take (R39). -/
inductive OneScreen where
  | lower
  | higher
deriving DecidableEq, Repr, Inhabited

/-- The sites at which the block asks the host for memory (R6: `Prg`, `Chr`, `ChrRam`). -/
inductive AllocSite where
  | prg
  | chr
  | chrRam
deriving DecidableEq, Repr

/-- CPU_INIT (R6, R331, D29): the register block at session start, supplied by the consumer. -/
opaque Config.cpuInit : CpuRegisters

/-- allocOk (R6, D5, D36): the host's answers for the session that starts at State.reset. The answers a
transaction consults are the field State.alloc, which reset fills from this constant. -/
opaque Config.allocOk : AllocSite → Bool

/-- CHR_RAM_INIT (R6, R190, D14): byte i of the AxROM character RAM at construction. -/
opaque Config.chrRamInit : Nat → Byte

/-- AXROM_INIT_PRG_BANK (R6, R190, D15): a value 0 to 7. -/
opaque Config.axromInitPrgBank : BitVec 3

/-- AXROM_INIT_MIRRORING (R6, R190, D16): OneScreenLower or OneScreenHigher. -/
opaque Config.axromInitMirroring : OneScreen

/-- CNROM_INIT_CHR_BANK (R6, R220, D21): a value 0 to 3. -/
opaque Config.cnromInitChrBank : BitVec 2

end Sys2Proof
end

