-- ==== Sys2Proof/Machine/State.lean ====
section
/-! DEFINITION. The state of the block as plain data (10_state.md R20 to R47), its value at session
start (70_reset_and_hazards.md R330), and the reasons a step could stop. The fields of the spec's state
tuple R20 are `stack` (phase, cart and mapper), `cpu`, `callbackRegistered`, `bus`, `trace` and `refused`;
the fields `alloc`, `script` and `result` are the model's own: the block's inputs and its output. -/

namespace Sys2Proof.Machine

/-- The five values of nameTableMirroring (R32). -/
inductive Mirroring where
  | horizontal
  | vertical
  | fourScreen
  | oneScreenLower
  | oneScreenHigher
deriving DecidableEq, Repr

/-- CartridgeImage (R28 to R34). No transaction writes it after LOAD (R35). -/
structure Cartridge where
  /-- The PRG data (R28). -/
  prg : List Byte
  /-- The CHR data, empty when the cartridge ships none (R29). -/
  chr : List Byte
  /-- Header byte 4 (R30). -/
  prgBankCount : Byte
  /-- Header byte 5 (R30). -/
  chrBankCount : Byte
  /-- The iNES mapper number (R31). -/
  mapperNumber : Byte
  /-- The mirroring of header byte 6 (R32). -/
  nameTableMirroring : Mirroring
  /-- Header byte 6 bit 1 (R33): a flag only, with no storage. -/
  hasExtendedRAM : Bool
  /-- Header byte 9, raw (R34). -/
  tvFlags9 : Byte
  /-- Header byte 10, raw (R34). -/
  tvFlags10 : Byte
deriving DecidableEq, Repr

/-- AxROM's own state (R37 to R39). -/
structure AxromState where
  /-- A 3-bit value, 0 to 7 (R37). -/
  selectedPrgBank : BitVec 3
  /-- Absent, or an owned byte array of 8192 bytes (R38). -/
  characterRam : Option (List Byte)
  /-- OneScreenLower or OneScreenHigher (R39). -/
  mirroringMode : OneScreen
deriving DecidableEq, Repr

/-- CNROM's own state (R41, R42). -/
structure CnromState where
  /-- A 2-bit value, 0 to 3 (R41). -/
  selectedChrBank : BitVec 2
  /-- True when PRG is exactly one 16 KiB bank (R42). -/
  singleBank : Bool
deriving DecidableEq, Repr

/-- mapper.kind (R36). -/
inductive MapperKind where
  | null
  | nrom
  | axrom
  | cnrom
deriving DecidableEq, Repr

/-- MapperState (R36 to R43): the kind, and the variant's own state. NROM and Null hold none (R43). -/
inductive Mapper where
  | null
  | nrom
  | axrom (m : AxromState)
  | cnrom (m : CnromState)
deriving DecidableEq, Repr

/-- phase (R21). -/
inductive Phase where
  | empty
  | loaded
  | mapped
deriving DecidableEq, Repr

/-- The cartridge stack: phase, cart and mapper of R20 in one value, so that cart exists exactly in phase
Loaded and Mapped and a mapper exactly in phase Mapped (R21). The mapper refers to the one cart (R36). -/
inductive Stack where
  /-- phase = Empty: no cartridge is loaded. -/
  | empty
  /-- phase = Loaded: a CartridgeImage exists and no mapper is active. -/
  | loaded (cart : Cartridge)
  /-- phase = Mapped: a CartridgeImage exists and exactly one mapper is active. -/
  | mapped (cart : Cartridge) (mapper : Mapper)
deriving DecidableEq, Repr

/-- The log kinds of R46. -/
inductive LogKind where
  /-- AxROM readChr when characterRam is absent. -/
  | noChrRam
  /-- AxROM readChr or writeChr with addr ≥ 8192. -/
  | chrRamOutOfRange
  /-- CNROM or NROM readChr with an index ≥ len(chr) and len(chr) > 0. -/
  | chrRomOutOfRange
  /-- CNROM or NROM readChr when len(chr) = 0. -/
  | noChrRom
  /-- Any variant's readPrg with a computed index ≥ len(prg). -/
  | prgOutOfRange
deriving DecidableEq, Repr

/-- An event of the side-channel trace (R45). -/
inductive Event where
  /-- A graceful-degrade report. -/
  | log (kind : LogKind)
  /-- One invocation of the mirroring callback (R196). -/
  | mirroring (mode : Mirroring)
deriving DecidableEq, Repr

/-- LoadError (R301), in the order of its numeric codes. -/
inductive LoadError where
  | truncatedHeader
  | noPrgBanks
  | truncatedPrg
  | truncatedChr
  | trainerUnsupported
  | allocationFailure
deriving DecidableEq, Repr

/-- MapperError (R302). -/
inductive MapperError where
  | noGraphicsSource
deriving DecidableEq, Repr

/-- The refusal reasons of R303, in the order of their numeric codes. A refused transaction is a result
of the block (R93), not a stop of the machine: the next transaction may be issued after it (R300). -/
inductive RefuseReason where
  | reservedCode
  | loadNotEmpty
  | noCartridge
  | mapperActive
  | unsupportedMapper
  | noMapper
deriving DecidableEq, Repr

/-- The value of an Ok result (R93). -/
inductive Value where
  /-- BUS_RD, PRG_RD, CHR_RD: a u8. -/
  | byte (v : Byte)
  /-- HAS_XRAM: the flag. The twelve resolvers: the extra-cycle Bool. -/
  | bool (v : Bool)
  /-- GET_MIRR: a mirroring value. -/
  | mirroring (v : Mirroring)
  /-- Every other code: empty. -/
  | empty
deriving DecidableEq, Repr

/-- What a transaction returns (R93). -/
inductive Result where
  | ok (v : Value)
  | loadError (e : LoadError)
  | mapperError (e : MapperError)
  | refused (r : RefuseReason)
deriving DecidableEq, Repr

/-- The host's answers to the block's allocation requests (R6: allocOk, an oracle of the site alone). -/
structure AllocAnswers where
  prg    : Bool
  chr    : Bool
  chrRam : Bool
deriving DecidableEq, Repr

/-- The state of the machine. -/
structure State where
  /-- phase, cart and mapper (R21, R28 to R43). -/
  stack : Stack
  /-- CpuRegisters (R22 to R25). -/
  cpu : CpuRegisters
  /-- Whether the host has registered the mirroring callback (R40). -/
  callbackRegistered : Bool
  /-- The 65536 bytes of bus RAM (R44) as the list of the bytes that are not 0x00, addresses rising. -/
  bus : List Host.Cell
  /-- The events so far, oldest first (R45). -/
  trace : List Event
  /-- The sticky mark of a refused transaction (R47). -/
  refused : Bool
  /-- The model's own (an input of R20): the host's allocation answers, the same for the whole run. -/
  alloc : AllocAnswers
  /-- The model's own (an input of R20, the program text): the script lines not yet taken, next first. -/
  script : List ScriptLine
  /-- The model's own (the output of R93): what the latest transaction returned; none before the first. -/
  result : Option Result
deriving DecidableEq, Repr

/-- The machine raises no fault: "The block has no traps, no exception vectors, no saved state and no
handler" (R300), and no address of a u16 port is outside the block's memories (R73, R252). Having no
constructor is safe: every step then answers a next state. -/
inductive Fault where
deriving DecidableEq, Repr

/-- Why an instruction has no meaning in the model. -/
inductive Refusal where
  /-- Raised by an arm of exec whose instruction has no meaning yet; safe, since nothing can be proved of
  a run that meets it. No arm raises it now: the refusals of R303 are results of the block. -/
  | notModelled (mnemonic : String)
deriving DecidableEq, Repr

/-- phase (R21). -/
def State.phase (s : State) : Phase :=
  match s.stack with
  | .empty => .empty
  | .loaded _ => .loaded
  | .mapped _ _ => .mapped

/-- cart (R28 to R34), absent in phase Empty. -/
def State.cart (s : State) : Option Cartridge :=
  match s.stack with
  | .empty => none
  | .loaded c => some c
  | .mapped c _ => some c

/-- mapper (R36 to R43), absent unless the phase is Mapped. -/
def State.mapper (s : State) : Option Mapper :=
  match s.stack with
  | .empty => none
  | .loaded _ => none
  | .mapped _ m => some m

/-- mapper.kind (R36). -/
def Mapper.kind (m : Mapper) : MapperKind :=
  match m with
  | .null => .null
  | .nrom => .nrom
  | .axrom _ => .axrom
  | .cnrom _ => .cnrom

/-- Session start, the block's only reset (R330): phase Empty, no cart, no mapper, no callback, 65536
bus bytes of 0x00, an empty trace, refused = false, and the CpuRegisters of CPU_INIT (R331). Nothing has
been issued and nothing returned. -/
def State.reset : State :=
  { stack := .empty
    cpu := Config.cpuInit
    callbackRegistered := false
    bus := []
    trace := []
    refused := false
    alloc := { prg := Config.allocOk .prg, chr := Config.allocOk .chr, chrRam := Config.allocOk .chrRam }
    script := []
    result := none }

end Sys2Proof.Machine
end

