-- ==== Sys2Proof/Machine/Ops.lean ====
section
/-! DEFINITION. The named operations over memory and registers, and the ways a transaction ends: the
typed results of 60_exceptions.md R300 to R304, which stand where another machine takes an exception.
The block has no exception entry and no return from one (R300). -/

namespace Sys2Proof.Machine

/-! ### Sizes (R6) -/

/-- BUS_SIZE. -/
abbrev busSize : Nat := 65536
/-- PRG_BANK_SIZE. -/
abbrev prgBankSize : Nat := 0x4000
/-- CHR_BANK_SIZE. -/
abbrev chrBankSize : Nat := 0x2000
/-- HEADER_SIZE. -/
abbrev headerSize : Nat := 16
/-- The AxROM PRG window (R192). -/
abbrev axromPrgWindow : Nat := 0x8000
/-- AXROM_CHR_RAM_SIZE (D13). -/
abbrev axromChrRamSize : Nat := 0x2000

/-! ### Bus RAM (R44, R250 to R252) -/

/-- What an address nothing has written reads as: the bus is zero-initialized (R44). -/
abbrev Memory.unlisted : Byte := 0x00#8

/-- The byte listed at an address, or the unlisted byte. -/
def Memory.lookup : List Host.Cell → Nat → Byte
  | [], _ => Memory.unlisted
  | (k, v) :: m, a => if k = a then v else Memory.lookup m a

/-- Lists `v` at address `a`, keeping the addresses rising; the unlisted byte is not listed. -/
def Memory.insert : List Host.Cell → Nat → Byte → List Host.Cell
  | [], a, v => if v = Memory.unlisted then [] else [(a, v)]
  | (k, w) :: m, a, v =>
    if a < k then
      if v = Memory.unlisted then (k, w) :: m else (a, v) :: (k, w) :: m
    else if a = k then
      if v = Memory.unlisted then m else (a, v) :: m
    else (k, w) :: Memory.insert m a v

/-- Reads one byte. An address ≥ 65536 reads 0: the defensive bound of R252, which "must not be
optimized away" and which no u16 address reaches. -/
def Memory.read (m : List Host.Cell) (a : Nat) : Byte :=
  if a < busSize then Memory.lookup m a else 0x00#8

/-- Writes one byte. A write to an address ≥ 65536 is ignored (R252). -/
def Memory.write (m : List Host.Cell) (a : Nat) (v : Byte) : List Host.Cell :=
  if a < busSize then Memory.insert m a v else m

/-- The canonical form: addresses strictly rising and below 65536, no entry equal to the unlisted byte. -/
abbrev Memory.wf (m : List Host.Cell) : Prop :=
  m.Pairwise (fun c d => c.1 < d.1) ∧ ∀ c ∈ m, c.1 < busSize ∧ c.2 ≠ Memory.unlisted

/-- `MemRead(a, 1)` (R9, R250). -/
def State.memRead (s : State) (a : Word) : Byte := Memory.read s.bus a.toNat

/-- `MemWrite(a, 1, v)` (R9, R251). -/
def State.memWrite (s : State) (a : Word) (v : Byte) : State :=
  { s with bus := Memory.write s.bus a.toNat v }

/-! ### Registers (R22 to R25) -/

/-- `x[PC] <- v`. -/
def State.setPc (s : State) (v : Word) : State := { s with cpu := { s.cpu with pc := v } }

/-- `x[absoluteAddress] <- v`. -/
def State.setAbsoluteAddress (s : State) (v : Word) : State :=
  { s with cpu := { s.cpu with absoluteAddress := v } }

/-- `x[relativeOffset] <- v`. -/
def State.setRelativeOffset (s : State) (v : Word) : State :=
  { s with cpu := { s.cpu with relativeOffset := v } }

/-- `x[fetchedOperand] <- v`. -/
def State.setFetchedOperand (s : State) (v : Byte) : State :=
  { s with cpu := { s.cpu with fetchedOperand := v } }

/-- The registers after a `.reg` line (R113): each named register takes the line's value. -/
def applyReg (r : RegLine) (c : CpuRegisters) : CpuRegisters :=
  { pc := r.pc.getD c.pc
    a := r.a.getD c.a
    x := r.x.getD c.x
    y := r.y.getD c.y
    absoluteAddress := r.absoluteAddress.getD c.absoluteAddress
    relativeOffset := r.relativeOffset.getD c.relativeOffset
    fetchedOperand := r.fetchedOperand.getD c.fetchedOperand }

/-- The consumer sets its register block. -/
def State.setCpu (s : State) (c : CpuRegisters) : State := { s with cpu := c }

/-! ### The cartridge stack, the callback and the script -/

/-- Replaces phase, cart and mapper together, so that none of them is ever half-built (R145, R161). -/
def State.setStack (s : State) (k : Stack) : State := { s with stack := k }

/-- `callbackRegistered <- b` (R179). -/
def State.setCallback (s : State) (b : Bool) : State := { s with callbackRegistered := b }

/-- The script lines still to be taken. -/
def State.setScript (s : State) (l : List ScriptLine) : State := { s with script := l }

/-! ### Events and results -/

/-- `emit`: appends one event to the trace and changes no other state (R9, R45). -/
def State.emit (s : State) (e : Event) : State := { s with trace := s.trace ++ [e] }

/-- Ends the transaction with a result (R93). -/
def State.answer (s : State) (r : Result) : State := { s with result := some r }

/-- `return v`. -/
def State.ok (s : State) (v : Value) : State := s.answer (.ok v)

/-- `refuse reason` (R9, R303): sets the sticky mark and changes nothing else. -/
def State.refuse (s : State) (r : RefuseReason) : State := { s with refused := true }.answer (.refused r)

/-- `raise LoadError(code)` (R9, R145): no state changes. -/
def State.raiseLoad (s : State) (e : LoadError) : State := s.answer (.loadError e)

/-- `raise MapperError(code)` (R9, R161): no state changes. -/
def State.raiseMapper (s : State) (e : MapperError) : State := s.answer (.mapperError e)

/-- An out-of-range or sourceless read (R304): one log event and exactly 0x00, never an open-bus
value (R305). -/
def State.degradedRead (s : State) (k : LogKind) : State := (s.emit (.log k)).ok (.byte 0x00#8)

/-- A read of byte `i` of a physical array, degraded with `k` when `i` is not below its length. -/
def State.readArray (s : State) (bytes : List Byte) (i : Nat) (k : LogKind) : State :=
  match bytes[i]? with
  | some b => s.ok (.byte b)
  | none => s.degradedRead k

/-- `PrgAt(i)` and the return of its byte (R180). -/
def State.prgAt (s : State) (c : Cartridge) (i : Nat) : State := s.readArray c.prg i .prgOutOfRange

/-! ### Numeric codes -/

/-- The 3-bit code of a mirroring value (R105). -/
def Mirroring.code (m : Mirroring) : BitVec 3 :=
  match m with
  | .horizontal => 0
  | .vertical => 1
  | .fourScreen => 2
  | .oneScreenLower => 3
  | .oneScreenHigher => 4

/-- AxROM's mode as a value of the five-valued enumeration (R32, R39). -/
def oneScreenMirroring (m : OneScreen) : Mirroring :=
  match m with
  | .lower => .oneScreenLower
  | .higher => .oneScreenHigher

/-- The LoadError codes of R301. -/
def LoadError.code (e : LoadError) : Nat :=
  match e with
  | .truncatedHeader => 1
  | .noPrgBanks => 2
  | .truncatedPrg => 3
  | .truncatedChr => 4
  | .trainerUnsupported => 5
  | .allocationFailure => 6

/-- The MapperError codes of R302. -/
def MapperError.code (e : MapperError) : Nat :=
  match e with
  | .noGraphicsSource => 1

/-- The refusal reasons' codes of R303. -/
def RefuseReason.code (r : RefuseReason) : Nat :=
  match r with
  | .reservedCode => 1
  | .loadNotEmpty => 2
  | .noCartridge => 3
  | .mapperActive => 4
  | .unsupportedMapper => 5
  | .noMapper => 6

end Sys2Proof.Machine
end

