-- ==== Sys2Proof/Machine/Bus.lean ====
section
/-! DEFINITION. The Address Bus transactions (44_address_bus.md R250 to R254), admitted in every phase and
independent of the cartridge stack (20_memory.md R61). -/

namespace Sys2Proof.Machine

/-- BUS_RD (R250): `return Ok(bus[addr])`; no side effect. -/
def execBusRd (addr : Word) (s : State) : Host.Outcome State Fault Refusal :=
  .next (s.ok (.byte (s.memRead addr)))

/-- BUS_WR (R251): `bus[addr] <- data`; it reaches no mapper. -/
def execBusWr (addr : Word) (data : Byte) (s : State) : Host.Outcome State Fault Refusal :=
  .next ((s.memWrite addr data).ok .empty)

end Sys2Proof.Machine
end

