-- ==== Sys2Proof/Machine/Axrom.lean ====
section
/-! DEFINITION. The AxROM variant (42_mapper_axrom.md R190 to R199). -/

namespace Sys2Proof.Machine

/-- Construction (R190, R191): the CHR RAM is asked of the host only when the cartridge has no CHR ROM, and
its refusal is the one construction failure. No event is appended. -/
def constructAxrom (alloc : AllocAnswers) (c : Cartridge) : Except MapperError Mapper :=
  if c.chr.length = 0 then
    if alloc.chrRam then
      .ok (.axrom {
        selectedPrgBank := Config.axromInitPrgBank
        characterRam := some ((List.range axromChrRamSize).map Config.chrRamInit)
        mirroringMode := Config.axromInitMirroring })
    else .error .noGraphicsSource
  else
    .ok (.axrom {
      selectedPrgBank := Config.axromInitPrgBank
      characterRam := none
      mirroringMode := Config.axromInitMirroring })

/-- The PRG translation of R192: bit 15 of the address is ignored. -/
def axromPrgIndex (bank : BitVec 3) (addr : Word) : Nat :=
  bank.toNat * axromPrgWindow + (addr &&& 0x7FFF#16).toNat

/-- AxROM PRG_RD (R192). -/
def axromPrgRd (c : Cartridge) (m : AxromState) (addr : Word) (s : State) : State :=
  s.prgAt c (axromPrgIndex m.selectedPrgBank addr)

/-- AxROM CHR_RD (R193): it never reads `cart.chr`. -/
def axromChrRd (m : AxromState) (addr : Word) (s : State) : State :=
  match m.characterRam with
  | none => s.degradedRead .noChrRam
  | some ram =>
    if addr.toNat < axromChrRamSize then s.ok (.byte (ram.getD addr.toNat 0x00#8))
    else s.degradedRead .chrRamOutOfRange

/-- The one-screen mode a written byte selects: bit 4 (R103). -/
def oneScreenOf (data : Byte) : OneScreen := if data.getLsbD 4 then .higher else .lower

/-- MirroringHook (R196): one event per invocation, only while a callback is registered. -/
def State.mirroringHook (s : State) (m : OneScreen) : State :=
  if s.callbackRegistered then s.emit (.mirroring (oneScreenMirroring m)) else s

/-- AxROM PRG_WR (R194 to R196): at addr ≥ 0x8000 bits [2:0] select the bank and bit 4 the mode, and the
hook runs after the state update; below it the write has no effect (D17). -/
def axromPrgWr (c : Cartridge) (m : AxromState) (addr : Word) (data : Byte) (s : State) : State :=
  if 0x8000 ≤ addr.toNat then
    ((s.setStack (.mapped c (.axrom { m with
      selectedPrgBank := data.extractLsb' 0 3
      mirroringMode := oneScreenOf data }))).mirroringHook (oneScreenOf data)).ok .empty
  else s.ok .empty

/-- AxROM CHR_WR (R197): ignored without character RAM; out of range it stores nothing and logs (D19). -/
def axromChrWr (c : Cartridge) (m : AxromState) (addr : Word) (data : Byte) (s : State) : State :=
  match m.characterRam with
  | none => s.ok .empty
  | some ram =>
    if addr.toNat < axromChrRamSize then
      (s.setStack (.mapped c (.axrom { m with characterRam := some (ram.set addr.toNat data) }))).ok .empty
    else (s.emit (.log .chrRamOutOfRange)).ok .empty

end Sys2Proof.Machine
end

