-- ==== Sys2Proof/Machine/Nrom.lean ====
section
/-! DEFINITION. The Null and NROM variants (41_mapper_base_nrom.md R169 to R177). Neither holds state of
its own (R43). -/

namespace Sys2Proof.Machine

/-- The fixed PRG translation shared by NROM and CNROM (R174, R221): `addr - 0x8000` modulo 65536, masked
with 0x3FFF when the image is a single bank. -/
def fixedPrgIndex (singleBank : Bool) (addr : Word) : Nat :=
  if singleBank then ((addr - 0x8000#16) &&& 0x3FFF#16).toNat else (addr - 0x8000#16).toNat

/-- Null PRG_RD (R169): 0x00 at every address, with no log (D9). -/
def nullPrgRd (_addr : Word) (s : State) : State := s.ok (.byte 0x00#8)

/-- Null CHR_RD (R170): 0x00 at every address, with no log (D9). -/
def nullChrRd (_addr : Word) (s : State) : State := s.ok (.byte 0x00#8)

/-- Null PRG_WR (R171). -/
def nullPrgWr (_addr : Word) (_data : Byte) (s : State) : State := s.ok .empty

/-- Null CHR_WR (R172). -/
def nullChrWr (_addr : Word) (_data : Byte) (s : State) : State := s.ok .empty

/-- NROM PRG_RD (R174). -/
def nromPrgRd (c : Cartridge) (addr : Word) (s : State) : State :=
  s.prgAt c (fixedPrgIndex (c.prgBankCount == 1#8) addr)

/-- NROM CHR_RD (R175). NROM has no character RAM (C4). -/
def nromChrRd (c : Cartridge) (addr : Word) (s : State) : State :=
  if c.chr.length = 0 then s.degradedRead .noChrRom
  else s.readArray c.chr addr.toNat .chrRomOutOfRange

/-- NROM PRG_WR (R176): NROM has no bank register. -/
def nromPrgWr (_addr : Word) (_data : Byte) (s : State) : State := s.ok .empty

/-- NROM CHR_WR (R177): no state changes, even when len(chr) = 0. -/
def nromChrWr (_addr : Word) (_data : Byte) (s : State) : State := s.ok .empty

end Sys2Proof.Machine
end

