-- ==== Sys2Proof/Machine/Cnrom.lean ====
section
/-! DEFINITION. The CNROM variant (43_mapper_cnrom.md R220 to R226). CHR is read-only ROM, never RAM. -/

namespace Sys2Proof.Machine

/-- Construction (R220): it allocates nothing and cannot fail. -/
def constructCnrom (c : Cartridge) : Mapper :=
  .cnrom { selectedChrBank := Config.cnromInitChrBank, singleBank := c.prgBankCount == 1 }

/-- CNROM PRG_RD (R221): selectedChrBank never affects PRG. -/
def cnromPrgRd (c : Cartridge) (m : CnromState) (addr : Word) (s : State) : State :=
  s.prgAt c (fixedPrgIndex m.singleBank addr)

/-- The CHR translation of R222: the bank number is ORed in, not added. -/
def cnromChrIndex (bank : BitVec 2) (addr : Word) : Word := addr ||| (bank.setWidth 16 <<< 13)

/-- CNROM CHR_RD (R222, R223). -/
def cnromChrRd (c : Cartridge) (m : CnromState) (addr : Word) (s : State) : State :=
  if c.chr.length = 0 then s.degradedRead .noChrRom
  else s.readArray c.chr (cnromChrIndex m.selectedChrBank addr).toNat .chrRomOutOfRange

/-- CNROM PRG_WR (R224): bits [1:0] select the CHR bank, at every address. -/
def cnromPrgWr (c : Cartridge) (m : CnromState) (_addr : Word) (data : Byte) (s : State) : State :=
  (s.setStack (.mapped c (.cnrom { m with selectedChrBank := data.extractLsb' 0 2 }))).ok .empty

/-- CNROM CHR_WR (R225): always a no-op that reports success. -/
def cnromChrWr (_addr : Word) (_data : Byte) (s : State) : State := s.ok .empty

end Sys2Proof.Machine
end

