-- ==== Sys2Proof/Machine/Construct.lean ====
section
/-! DEFINITION. Mapper selection and construction: MAP_NEW and MAP_NEW_NULL (41_mapper_base_nrom.md R161 to
R165). -/

namespace Sys2Proof.Machine

/-- `select(n)` (R162, D8): 0 is NROM, 3 CNROM, 7 AxROM; every other number is unsupported (R163). -/
def selectVariant (n : Byte) : Option MapperKind :=
  if n = 0#8 then some .nrom
  else if n = 3#8 then some .cnrom
  else if n = 7#8 then some .axrom
  else none

/-- Phase Loaded to Mapped (R161, R164). -/
def State.enterMapped (s : State) (c : Cartridge) (m : Mapper) : State :=
  (s.setStack (.mapped c m)).ok .empty

/-- The construction step of R161 for a loaded cartridge. -/
def buildMapper (c : Cartridge) (s : State) : State :=
  match selectVariant c.mapperNumber with
  | none => s.refuse .unsupportedMapper
  | some .null => s.enterMapped c .null
  | some .nrom => s.enterMapped c .nrom
  | some .axrom =>
    match constructAxrom s.alloc c with
    | .error e => s.raiseMapper e
    | .ok m => s.enterMapped c m
  | some .cnrom => s.enterMapped c (constructCnrom c)

/-- The phase checks of R161 and R164 around a construction. -/
def construct (build : Cartridge → State → State) (s : State) : State :=
  match s.stack with
  | .empty => s.refuse .noCartridge
  | .loaded c => build c s
  | .mapped _ _ => s.refuse .mapperActive

/-- MAP_NEW (R161). A failure or refusal leaves the phase Loaded and no mapper. -/
def execMapNew (s : State) : Host.Outcome State Fault Refusal :=
  .next (construct buildMapper s)

/-- MAP_NEW_NULL (R164): never fails in phase Loaded, and ignores the mapper number. -/
def execMapNewNull (s : State) : Host.Outcome State Fault Refusal :=
  .next (construct (fun c s => s.enterMapped c .null) s)

end Sys2Proof.Machine
end

