-- ==== Sys2Proof/Machine/Loader.lean ====
section
/-! DEFINITION. The Cartridge Loader and iNES header parser (40_cartridge_loader.md R130 to R147), and the
host's callback registration, the other transaction of the CONFIG unit that needs no cartridge. -/

namespace Sys2Proof.Machine

/-- Header byte `i` of a stream that holds its 16 header bytes (R95 to R101). -/
def headerByte (stream : List Byte) (i : Nat) : Byte := stream.getD i 0x00#8

/-- `((h[6] >> 4) & 0x0F) | (h[7] & 0xF0)` (R140). -/
def mapperNumberOf (h6 h7 : Byte) : Byte := ((h6 >>> 4) &&& 0x0F#8) ||| (h7 &&& 0xF0#8)

/-- FourScreen if bit 3, else Vertical if bit 0, else Horizontal (R141). -/
def mirroringOf (h6 : Byte) : Mirroring :=
  if h6.getLsbD 3 then .fourScreen
  else if h6.getLsbD 0 then .vertical
  else .horizontal

/-- The length in bytes of the PRG body, P of R102 and R131. -/
def prgBodySize (stream : List Byte) : Nat := (headerByte stream 4).toNat * prgBankSize

/-- The length in bytes of the CHR body, C of R102 and R131. -/
def chrBodySize (stream : List Byte) : Nat := (headerByte stream 5).toNat * chrBankSize

/-- The cartridge of an image that passes every check of R131: every field at once (R145). Bytes past the
CHR body are ignored (R139). -/
def cartridgeOf (stream : List Byte) : Cartridge :=
  { prg := (stream.drop headerSize).take (prgBodySize stream)
    chr := (stream.drop (headerSize + prgBodySize stream)).take (chrBodySize stream)
    prgBankCount := headerByte stream 4
    chrBankCount := headerByte stream 5
    mapperNumber := mapperNumberOf (headerByte stream 6) (headerByte stream 7)
    nameTableMirroring := mirroringOf (headerByte stream 6)
    hasExtendedRAM := (headerByte stream 6).getLsbD 1
    tvFlags9 := headerByte stream 9
    tvFlags10 := headerByte stream 10 }

/-- The checks of R131, in its order: the first that fails decides the result (R306). -/
def parseImage (alloc : AllocAnswers) (stream : List Byte) : Except LoadError Cartridge :=
  if stream.length < headerSize then .error .truncatedHeader
  else if (headerByte stream 6).getLsbD 2 then .error .trainerUnsupported
  else if headerByte stream 4 = 0x00#8 then .error .noPrgBanks
  else if alloc.prg = false then .error .allocationFailure
  else if stream.length < headerSize + prgBodySize stream then .error .truncatedPrg
  else if chrBodySize stream = 0 then .ok (cartridgeOf stream)
  else if alloc.chr = false then .error .allocationFailure
  else if stream.length < headerSize + prgBodySize stream + chrBodySize stream then .error .truncatedChr
  else .ok (cartridgeOf stream)

/-- LOAD (R131): admitted only in phase Empty (R144); a failure changes no state (R145); a success appends
nothing to the trace (R146). -/
def execLoad (stream : List Byte) (s : State) : Host.Outcome State Fault Refusal :=
  .next (match s.stack with
    | .empty =>
      match parseImage s.alloc stream with
      | .error e => s.raiseLoad e
      | .ok c => (s.setStack (.loaded c)).ok .empty
    | .loaded _ => s.refuse .loadNotEmpty
    | .mapped _ _ => s.refuse .loadNotEmpty)

/-- CB_SET (R179): bit 0 registers or removes the callback, in every phase; bits [7:1] are ignored. -/
def execCbSet (data : Byte) (s : State) : Host.Outcome State Fault Refusal :=
  .next ((s.setCallback (data.getLsbD 0)).ok .empty)

end Sys2Proof.Machine
end

