-- ==== Sys2Proof/Machine/Mapper.lean ====
section
/-! DEFINITION. The seven ports of the mapper contract (41_mapper_base_nrom.md R160), each dispatched on
the mapper's kind, and refused with NoMapper in every phase but Mapped (R178). -/

namespace Sys2Proof.Machine

/-- The phase check of R178 around a port's own rule. -/
def mapperPort (port : Cartridge → Mapper → State → State) (s : State) : State :=
  match s.stack with
  | .empty => s.refuse .noMapper
  | .loaded _ => s.refuse .noMapper
  | .mapped c m => port c m s

/-- PRG_RD's column of R160. -/
def portPrgRd (addr : Word) (c : Cartridge) (m : Mapper) (s : State) : State :=
  match m with
  | .null => nullPrgRd addr s
  | .nrom => nromPrgRd c addr s
  | .axrom a => axromPrgRd c a addr s
  | .cnrom n => cnromPrgRd c n addr s

/-- CHR_RD's column of R160. -/
def portChrRd (addr : Word) (c : Cartridge) (m : Mapper) (s : State) : State :=
  match m with
  | .null => nullChrRd addr s
  | .nrom => nromChrRd c addr s
  | .axrom a => axromChrRd a addr s
  | .cnrom n => cnromChrRd c n addr s

/-- PRG_WR's column of R160. -/
def portPrgWr (addr : Word) (data : Byte) (c : Cartridge) (m : Mapper) (s : State) : State :=
  match m with
  | .null => nullPrgWr addr data s
  | .nrom => nromPrgWr addr data s
  | .axrom a => axromPrgWr c a addr data s
  | .cnrom n => cnromPrgWr c n addr data s

/-- CHR_WR's column of R160. -/
def portChrWr (addr : Word) (data : Byte) (c : Cartridge) (m : Mapper) (s : State) : State :=
  match m with
  | .null => nullChrWr addr data s
  | .nrom => nromChrWr addr data s
  | .axrom a => axromChrWr c a addr data s
  | .cnrom _ => cnromChrWr addr data s

/-- GET_MIRR: the base forwards to the cartridge (R166); AxROM manages mirroring itself (R198). -/
def portGetMirr (c : Cartridge) (m : Mapper) (s : State) : State :=
  match m with
  | .null => s.ok (.mirroring c.nameTableMirroring)
  | .nrom => s.ok (.mirroring c.nameTableMirroring)
  | .axrom a => s.ok (.mirroring (oneScreenMirroring a.mirroringMode))
  | .cnrom _ => s.ok (.mirroring c.nameTableMirroring)

/-- HAS_XRAM, every variant (R167): forwards to the cartridge. -/
def portHasXram (c : Cartridge) (_m : Mapper) (s : State) : State := s.ok (.bool c.hasExtendedRAM)

/-- SCANLINE, every variant (R168): a no-op hook; no event and no interrupt (R307). -/
def portScanline (_c : Cartridge) (_m : Mapper) (s : State) : State := s.ok .empty

/-- PRG_RD (R160: R169, R174, R192, R221). -/
def execPrgRd (addr : Word) (s : State) : Host.Outcome State Fault Refusal :=
  .next (mapperPort (portPrgRd addr) s)

/-- CHR_RD (R160: R170, R175, R193, R222, R223). -/
def execChrRd (addr : Word) (s : State) : Host.Outcome State Fault Refusal :=
  .next (mapperPort (portChrRd addr) s)

/-- PRG_WR (R160: R171, R176, R194 to R196, R224). -/
def execPrgWr (addr : Word) (data : Byte) (s : State) : Host.Outcome State Fault Refusal :=
  .next (mapperPort (portPrgWr addr data) s)

/-- CHR_WR (R160: R172, R177, R197, R225). -/
def execChrWr (addr : Word) (data : Byte) (s : State) : Host.Outcome State Fault Refusal :=
  .next (mapperPort (portChrWr addr data) s)

/-- GET_MIRR (R166, R198). -/
def execGetMirr (s : State) : Host.Outcome State Fault Refusal :=
  .next (mapperPort portGetMirr s)

/-- HAS_XRAM (R167). -/
def execHasXram (s : State) : Host.Outcome State Fault Refusal :=
  .next (mapperPort portHasXram s)

/-- SCANLINE (R168). -/
def execScanline (s : State) : Host.Outcome State Fault Refusal :=
  .next (mapperPort portScanline s)

end Sys2Proof.Machine
end

