-- ==== Sys2Proof/Machine/Flags.lean ====
section
/-! DEFINITION. The one flag of the block: the extra-cycle Bool a resolver returns (10_state.md R26).
There is no status register and there are no condition codes (R27). -/

namespace Sys2Proof.Machine

/-- `PageCross(a, hi)` (R270): `(a & 0xFF00) != (zext16(hi) << 8)`, where hi is the high byte of the
unindexed base. -/
def pageCross (a : Word) (hi : Byte) : Bool := (a &&& 0xFF00#16) != (hi.setWidth 16 <<< 8)

end Sys2Proof.Machine
end

