-- ==== Sys2Proof/Machine/Operands.lean ====
section
/-! DEFINITION. Operand bytes and operand forms of the twelve modes (30_encoding.md R107 to R111,
45_addressing_modes.md R261). -/

namespace Sys2Proof.Machine

/-- `hi:lo` (R8): the u16 `(hi << 8) | lo`, the little-endian assembly of R66. -/
def pair (hi lo : Byte) : Word := (hi.setWidth 16 <<< 8) ||| lo.setWidth 16

/-- The byte `Fetch8()` returns: the one at PC (R261). -/
def State.operandByte (s : State) : Byte := s.memRead s.cpu.pc

/-- The state `Fetch8()` leaves: PC advanced by one, modulo 65536 (R261). -/
def State.advancePc (s : State) : State := s.setPc (s.cpu.pc + 1)

/-- `Fetch8()` (R261). -/
def fetch8 (s : State) : Byte × State := (s.operandByte, s.advancePc)

/-- Two operand bytes, low then high (R110), as high byte and low byte. -/
def fetch16 (s : State) : (Byte × Byte) × State :=
  let lo := fetch8 s
  let hi := fetch8 lo.2
  ((hi.1, lo.1), hi.2)

/-- A zero-page operand plus an index (R109): the sum masked to page 0x00. -/
def zeroPage (b i : Byte) : Word := (b.setWidth 16 + i.setWidth 16) &&& 0x00FF#16

/-- The address of the high byte of a zero-page pointer (R273, R274): one past the low byte's, wrapped
within page 0x00 (D25, D26). -/
def zeroPageNext (b i : Byte) : Word := (b.setWidth 16 + i.setWidth 16 + 1) &&& 0x00FF#16

/-- An indexed 16-bit address, modulo 65536 (R269, R271, R274). -/
def indexed (base : Word) (i : Byte) : Word := base + i.setWidth 16

/-- The address the Indirect mode reads its target's high byte at (R272): the pointer plus one, but
`pointer & 0xFF00` when the pointer's low byte is 0xFF, the page-wrap hardware bug. -/
def indirectHigh (phi plo : Byte) : Word :=
  if plo = 0xFF#8 then pair phi plo &&& 0xFF00#16 else pair phi plo + 1

/-- The relative operand (R111): sign-extended by OR-ing 0xFF00. -/
def relative (b : Byte) : Word :=
  if b.getLsbD 7 then b.setWidth 16 ||| 0xFF00#16 else b.setWidth 16

/-- The operand bytes a transaction consumes at PC, R108's table; no transaction but a resolver
consumes any. -/
def operandBytes (i : Instr) : Nat :=
  match i with
  | .imp => 0
  | .imm => 1
  | .zp0 => 1
  | .zpx => 1
  | .zpy => 1
  | .abs => 2
  | .abx => 2
  | .aby => 2
  | .ind => 2
  | .izx => 1
  | .izy => 1
  | .rel => 1
  | .busRd _ => 0
  | .busWr _ _ => 0
  | .prgRd _ => 0
  | .chrRd _ => 0
  | .prgWr _ _ => 0
  | .chrWr _ _ => 0
  | .getMirr => 0
  | .hasXram => 0
  | .scanline => 0
  | .load _ => 0
  | .mapNew => 0
  | .mapNewNull => 0
  | .cbSet _ => 0

end Sys2Proof.Machine
end

