-- ==== Sys2Proof/Machine/Resolvers.lean ====
section
/-! DEFINITION. The twelve addressing-mode resolvers (45_addressing_modes.md R260 to R277). Each is
admitted in every phase, never fails, reads the bus through MemRead alone, and writes PC and exactly one
output; its result is the extra-cycle Bool. -/

namespace Sys2Proof.Machine

/-- The end of every resolver: `return Ok(extra)` (R260). -/
def State.resolved (s : State) (extra : Bool) : State := s.ok (.bool extra)

/-- The common shape of ZPX and ZPY (R266, R267): a wrap within page 0x00 is not a page cross. -/
def resolveZeroPage (i : Byte) (s : State) : State :=
  let b := fetch8 s
  (b.2.setAbsoluteAddress (zeroPage b.1 i)).resolved false

/-- The common shape of ABX and ABY (R269, R271). -/
def resolveIndexed (i : Byte) (s : State) : State :=
  let o := fetch16 s
  let a := indexed (pair o.1.1 o.1.2) i
  (o.2.setAbsoluteAddress a).resolved (pageCross a o.1.1)

/-- IMP (R263): `fetchedOperand <- A`; PC is unchanged and no bus read is made. It also serves
accumulator addressing (R277). -/
def execImp (s : State) : Host.Outcome State Fault Refusal :=
  .next ((s.setFetchedOperand s.cpu.a).resolved false)

/-- IMM (R264): the operand's address is the current PC; no bus read is made. -/
def execImm (s : State) : Host.Outcome State Fault Refusal :=
  .next ((s.setAbsoluteAddress s.cpu.pc).advancePc.resolved false)

/-- ZP0 (R265): `zext16(b) & 0x00FF`, an index of zero. -/
def execZp0 (s : State) : Host.Outcome State Fault Refusal :=
  .next (resolveZeroPage 0x00#8 s)

/-- ZPX (R266). -/
def execZpx (s : State) : Host.Outcome State Fault Refusal :=
  .next (resolveZeroPage s.cpu.x s)

/-- ZPY (R267). -/
def execZpy (s : State) : Host.Outcome State Fault Refusal :=
  .next (resolveZeroPage s.cpu.y s)

/-- ABS (R268). -/
def execAbs (s : State) : Host.Outcome State Fault Refusal :=
  let o := fetch16 s
  .next ((o.2.setAbsoluteAddress (pair o.1.1 o.1.2)).resolved false)

/-- ABX (R269): the extra cycle is the page cross of the addition. -/
def execAbx (s : State) : Host.Outcome State Fault Refusal :=
  .next (resolveIndexed s.cpu.x s)

/-- ABY (R271): the extra cycle is the page cross of the addition. -/
def execAby (s : State) : Host.Outcome State Fault Refusal :=
  .next (resolveIndexed s.cpu.y s)

/-- IND (R272), with the page-wrap hardware bug: four bus reads, at PC, PC + 1, the pointer and the
high-byte address. -/
def execInd (s : State) : Host.Outcome State Fault Refusal :=
  let o := fetch16 s
  let lo := o.2.memRead (pair o.1.1 o.1.2)
  let hi := o.2.memRead (indirectHigh o.1.1 o.1.2)
  .next ((o.2.setAbsoluteAddress (pair hi lo)).resolved false)

/-- IZX (R273): the pointer lies in page 0x00 at the operand plus X; no page-cross cycle. -/
def execIzx (s : State) : Host.Outcome State Fault Refusal :=
  let t := fetch8 s
  let lo := t.2.memRead (zeroPage t.1 s.cpu.x)
  let hi := t.2.memRead (zeroPageNext t.1 s.cpu.x)
  .next ((t.2.setAbsoluteAddress (pair hi lo)).resolved false)

/-- IZY (R274): the zero-page pointer is dereferenced first, then Y is added; the extra cycle is the page
cross of that addition. -/
def execIzy (s : State) : Host.Outcome State Fault Refusal :=
  let t := fetch8 s
  let lo := t.2.memRead (zeroPage t.1 0x00#8)
  let hi := t.2.memRead (zeroPageNext t.1 0x00#8)
  let a := indexed (pair hi lo) s.cpu.y
  .next ((t.2.setAbsoluteAddress a).resolved (pageCross a hi))

/-- REL (R275): the offset goes to relativeOffset; the block never adds it to PC. -/
def execRel (s : State) : Host.Outcome State Fault Refusal :=
  let b := fetch8 s
  .next ((b.2.setRelativeOffset (relative b.1)).resolved false)

/-- The bus reads of a transaction, in the order its rule lists them (R262, D28): operand bytes in PC
order, then a pointer's low byte, then its high byte. No transaction reads the bus elsewhere. -/
def busReads (i : Instr) (s : State) : List Word :=
  match i with
  | .imp => []
  | .imm => []
  | .zp0 => [s.cpu.pc]
  | .zpx => [s.cpu.pc]
  | .zpy => [s.cpu.pc]
  | .abs => [s.cpu.pc, s.cpu.pc + 1]
  | .abx => [s.cpu.pc, s.cpu.pc + 1]
  | .aby => [s.cpu.pc, s.cpu.pc + 1]
  | .ind =>
    let o := fetch16 s
    [s.cpu.pc, s.cpu.pc + 1, pair o.1.1 o.1.2, indirectHigh o.1.1 o.1.2]
  | .izx => [s.cpu.pc, zeroPage s.operandByte s.cpu.x, zeroPageNext s.operandByte s.cpu.x]
  | .izy => [s.cpu.pc, zeroPage s.operandByte 0x00#8, zeroPageNext s.operandByte 0x00#8]
  | .rel => [s.cpu.pc]
  | .busRd a => [a]
  | .busWr _ _ => []
  | .prgRd _ => []
  | .chrRd _ => []
  | .prgWr _ _ => []
  | .chrWr _ _ => []
  | .getMirr => []
  | .hasXram => []
  | .scanline => []
  | .load _ => []
  | .mapNew => []
  | .mapNewNull => []
  | .cbSet _ => []

end Sys2Proof.Machine
end

