-- ==== Sys2Proof/Machine/Dispatch.lean ====
section
/-! DEFINITION. The dispatch of a transaction to its meaning, one arm per constructor of Instr. -/

namespace Sys2Proof.Machine

def exec (i : Instr) (s : State) : Host.Outcome State Fault Refusal :=
  match i with
  | .imp => Sys2Proof.Machine.execImp s
  | .imm => Sys2Proof.Machine.execImm s
  | .zp0 => Sys2Proof.Machine.execZp0 s
  | .zpx => Sys2Proof.Machine.execZpx s
  | .zpy => Sys2Proof.Machine.execZpy s
  | .abs => Sys2Proof.Machine.execAbs s
  | .abx => Sys2Proof.Machine.execAbx s
  | .aby => Sys2Proof.Machine.execAby s
  | .ind => Sys2Proof.Machine.execInd s
  | .izx => Sys2Proof.Machine.execIzx s
  | .izy => Sys2Proof.Machine.execIzy s
  | .rel => Sys2Proof.Machine.execRel s
  | .busRd addr => Sys2Proof.Machine.execBusRd addr s
  | .busWr addr data => Sys2Proof.Machine.execBusWr addr data s
  | .prgRd addr => Sys2Proof.Machine.execPrgRd addr s
  | .chrRd addr => Sys2Proof.Machine.execChrRd addr s
  | .prgWr addr data => Sys2Proof.Machine.execPrgWr addr data s
  | .chrWr addr data => Sys2Proof.Machine.execChrWr addr data s
  | .getMirr => Sys2Proof.Machine.execGetMirr s
  | .hasXram => Sys2Proof.Machine.execHasXram s
  | .scanline => Sys2Proof.Machine.execScanline s
  | .load stream => Sys2Proof.Machine.execLoad stream s
  | .mapNew => Sys2Proof.Machine.execMapNew s
  | .mapNewNull => Sys2Proof.Machine.execMapNewNull s
  | .cbSet data => Sys2Proof.Machine.execCbSet data s

end Sys2Proof.Machine
end

