-- ==== Sys2Proof/Machine/Fetch.lean ====
section
/-! DEFINITION. Taking the next script line: what step does around exec. The block fetches no
instructions (20_memory.md R80): the consumer issues transactions one at a time on the port (R5, R90),
and State.script holds the lines it has yet to issue. -/

namespace Sys2Proof.Machine

/-- A transaction issued on the port: decoded and executed, or refused for its reserved code (R94). -/
def issue (t : Transaction) (s : State) : Host.Outcome State Fault Refusal :=
  match decode t with
  | .ok i => exec i s
  | .error (.reservedCode _) => .next (s.refuse .reservedCode)

/-- A `.reg` line (R113): the consumer sets its registers; no transaction takes place. -/
def consumerSets (r : RegLine) (s : State) : State := s.setCpu (applyReg r s.cpu)

/-- The next script line is taken off the script and carried out. With no line left the consumer issues
nothing and the block does nothing: "THE END OF A SESSION IS NOT A TRANSACTION" and there is no halt
(R334). -/
def takeLine (s : State) : Host.Outcome State Fault Refusal :=
  match s.script with
  | [] => .next s
  | .transaction t :: rest => issue t (s.setScript rest)
  | .reg r :: rest => .next (consumerSets r (s.setScript rest))

/-- The transaction `t` issued next, before every line the script already holds. -/
def issueNext (t : Transaction) (s : State) : State := s.setScript (.transaction t :: s.script)

end Sys2Proof.Machine
end

