-- ==== Sys2Proof/Machine/Step.lean ====
section
/-! DEFINITION. One step of the machine: the next script line. Each transaction is one atomic step
(20_memory.md R72, R77). -/

namespace Sys2Proof.Machine

/-- One step: the next line of the script is taken (Machine/Fetch.lean). -/
def step (s : State) : Host.Outcome State Fault Refusal := takeLine s

/-- `s` with the transaction of opcode-table bits `w` issued next. -/
def State.withFetchWord (s : State) (nbits w : Nat) : State := issueNext (tableTransaction nbits w) s

end Sys2Proof.Machine
end

