-- ==== Sys2Proof/Safety.lean ====
section
/-! DEFINITION. The invariant of the block and the words the statements use for whole runs. -/

namespace Sys2Proof.Machine

/-- What LOAD establishes of a cartridge (R28 to R32) and no transaction changes (R35). -/
def Cartridge.Inv (c : Cartridge) : Prop :=
  c.prgBankCount ≠ 0#8 ∧
  c.prg.length = c.prgBankCount.toNat * 0x4000 ∧
  c.chr.length = c.chrBankCount.toNat * 0x2000 ∧
  (c.nameTableMirroring = .horizontal ∨ c.nameTableMirroring = .vertical ∨
    c.nameTableMirroring = .fourScreen)

/-- What construction establishes of a mapper over its cartridge (R36, R38, R42, R162) and no transaction
changes. -/
def Mapper.Inv (c : Cartridge) (m : Mapper) : Prop :=
  match m with
  | .null => True
  | .nrom => c.mapperNumber = 0#8
  | .axrom a =>
    c.mapperNumber = 7#8 ∧
    (match a.characterRam with
      | none => c.chr.length ≠ 0
      | some ram => c.chr.length = 0 ∧ ram.length = 8192)
  | .cnrom n => c.mapperNumber = 3#8 ∧ n.singleBank = (c.prgBankCount == 1#8)

/-- The invariant of the cartridge stack. -/
def Stack.Inv (k : Stack) : Prop :=
  match k with
  | .empty => True
  | .loaded c => c.Inv
  | .mapped c m => c.Inv ∧ m.Inv c

/-- The invariant every step keeps: bus memory in canonical form, and a cartridge stack as LOAD and
MAP_NEW build it. -/
def State.Inv (s : State) : Prop := Memory.wf s.bus ∧ s.stack.Inv

/-- The states a sequence of transactions passes through, ending in `t`: each is executed in the state the
one before it left (R77). -/
def Runs : List Instr → State → State → Prop
  | [], s, t => s = t
  | i :: is, s, t => ∃ u, exec i s = .next u ∧ Runs is u t

end Sys2Proof.Machine
end

