-- ==== Sys2Proof/Certificates/Slice0/Obligations.lean ====
section
/-! DEFINITION. The statements for the provers. Each says in full the next state a transaction leaves, so that
its frame (every register, every bus byte, the cartridge stack, the trace and the marks it does not name)
stands in the same equation. -/

open Sys2Proof Sys2Proof.Machine

/-! ### Session start and the invariant -/

/-- R330, R331: session start. The register block is the OPEN parameter CPU_INIT (D29, log entry 1), and the
phases are the spec's own choice (D30, log entry 22). -/
def Obligations.ResetIsSessionStart : Prop :=
  State.reset.phase = .empty ∧ State.reset.cart = none ∧ State.reset.mapper = none ∧
  State.reset.callbackRegistered = false ∧ (∀ a : Word, State.reset.memRead a = 0x00#8) ∧
  State.reset.trace = [] ∧ State.reset.refused = false ∧ State.reset.cpu = Config.cpuInit

/-- The invariant holds at session start. -/
def Obligations.ResetMeetsTheInvariant : Prop := State.reset.Inv

/-- Every step keeps the invariant (R28 to R32, R35, R36, R38, R42, R44): bus memory canonical, cartridge
arrays of the sizes their bank counts give, CHR RAM exactly when there is no CHR ROM and 8192 bytes long (that size
is the spec's own choice D13, log entry 14; the list forms are the model's, log entries 10 and 12). -/
def Obligations.StepKeepsTheInvariant : Prop :=
  ∀ s t : State, s.Inv → step s = .next t → t.Inv

/-! ### Encoding -/

/-- R92, R113: every instruction's written form is well-formed and decodes to that instruction, with every operand
it has. The codes are the spec's own choice (D1, log entry 11). -/
def Obligations.DecodeOfEncodeIsTheInstruction : Prop :=
  ∀ i : Instr, (encode i).wellFormed = true ∧ decode (encode i) = .ok i

/-- R92, R113: every well-formed transaction decodes, and its instruction is written as that transaction. The
codes and the written form are the spec's own choice (D1, D32, log entry 11). -/
def Obligations.EncodeOfDecodeIsTheTransaction : Prop :=
  ∀ t : Transaction, t.wellFormed = true → ∃ i, decode t = .ok i ∧ encode i = t

/-- R92: a written-out transaction of each of the 25 codes decodes to the instruction the code stands for, with its
operands (the codes are the spec's own choice D1, log entry 11). -/
def Obligations.WrittenCodesDecode : Prop :=
  (decode ⟨0x00, 0, 0, []⟩ = .ok .imp ∧ decode ⟨0x01, 0, 0, []⟩ = .ok .imm ∧
    decode ⟨0x02, 0, 0, []⟩ = .ok .zp0 ∧ decode ⟨0x03, 0, 0, []⟩ = .ok .zpx ∧
    decode ⟨0x04, 0, 0, []⟩ = .ok .zpy ∧ decode ⟨0x05, 0, 0, []⟩ = .ok .abs ∧
    decode ⟨0x06, 0, 0, []⟩ = .ok .abx ∧ decode ⟨0x07, 0, 0, []⟩ = .ok .aby ∧
    decode ⟨0x08, 0, 0, []⟩ = .ok .ind ∧ decode ⟨0x09, 0, 0, []⟩ = .ok .izx ∧
    decode ⟨0x0A, 0, 0, []⟩ = .ok .izy ∧ decode ⟨0x0B, 0, 0, []⟩ = .ok .rel) ∧
  (decode ⟨0x10, 0xFFFF, 0, []⟩ = .ok (.busRd 0xFFFF) ∧
    decode ⟨0x11, 0x0200, 0xA9, []⟩ = .ok (.busWr 0x0200 0xA9)) ∧
  (decode ⟨0x20, 0xC005, 0, []⟩ = .ok (.prgRd 0xC005) ∧ decode ⟨0x21, 0x1FFF, 0, []⟩ = .ok (.chrRd 0x1FFF) ∧
    decode ⟨0x22, 0x8000, 0x02, []⟩ = .ok (.prgWr 0x8000 0x02) ∧
    decode ⟨0x23, 0x0100, 0x5A, []⟩ = .ok (.chrWr 0x0100 0x5A) ∧
    decode ⟨0x24, 0, 0, []⟩ = .ok .getMirr ∧ decode ⟨0x25, 0, 0, []⟩ = .ok .hasXram ∧
    decode ⟨0x26, 0, 0, []⟩ = .ok .scanline) ∧
  (decode ⟨0x30, 0, 0, [0x4E, 0x45]⟩ = .ok (.load [0x4E, 0x45]) ∧ decode ⟨0x31, 0, 0, []⟩ = .ok .mapNew ∧
    decode ⟨0x32, 0, 0, []⟩ = .ok .mapNewNull ∧ decode ⟨0x33, 0, 0x01, []⟩ = .ok (.cbSet 0x01))

/-- R90: "A transaction code that does not use an operand ignores it." The port is the spec's own choice (D1,
log entry 11). -/
def Obligations.UnusedOperandsAreIgnored : Prop :=
  ∀ (code : Byte) (addr addr' : Word) (data data' : Byte) (stream stream' : List Byte),
    (code.toNat ∈ [0x10, 0x11, 0x20, 0x21, 0x22, 0x23] → addr = addr') →
    (code.toNat ∈ [0x11, 0x22, 0x23, 0x33] → data = data') →
    (code.toNat = 0x30 → stream = stream') →
    decode ⟨code, addr, data, stream⟩ = decode ⟨code, addr', data', stream'⟩

/-! ### One step -/

/-- R77, R90: a step with a transaction at the head of the script runs the decoded instruction, the line taken
off the script. The script field is the model's choice (log entry 3). -/
def Obligations.StepRunsTheDecodedTransaction : Prop :=
  ∀ (s : State) (t : Transaction) (rest : List ScriptLine) (i : Instr),
    s.script = .transaction t :: rest → decode t = .ok i →
    step s = exec i { s with script := rest }

/-- R94: a reserved code does nothing but end with Refused(ReservedCode) and set the sticky mark. The spec's own
choice (D38, log entry 22); that a refusal is a next state is the model's (log entry 7). -/
def Obligations.ReservedCodesAreRefused : Prop :=
  ∀ (s : State) (t : Transaction) (rest : List ScriptLine),
    s.script = .transaction t :: rest →
    ((0x0C ≤ t.code.toNat ∧ t.code.toNat ≤ 0x0F) ∨ (0x12 ≤ t.code.toNat ∧ t.code.toNat ≤ 0x1F) ∨
      (0x27 ≤ t.code.toNat ∧ t.code.toNat ≤ 0x2F) ∨ (0x34 ≤ t.code.toNat ∧ t.code.toNat ≤ 0x3F) ∨
      (0x40 ≤ t.code.toNat ∧ t.code.toNat ≤ 0xFF)) →
    step s = .next { s with
      script := rest, refused := true, result := some (.refused .reservedCode) }

/-- R113, R115: a `.reg` line is no transaction; the registers it names take its values and nothing else
changes (the model's choice, log entry 6). With no line left the block does nothing (R334, 70_reset_and_hazards.md
section 2; the model's choice, log entry 4). -/
def Obligations.RegLinesAndTheEndOfAScript : Prop :=
  (∀ (s : State) (r : RegLine) (rest : List ScriptLine), s.script = .reg r :: rest →
    ∃ t, step s = .next t ∧ t = { s with script := rest, cpu := t.cpu } ∧
      t.cpu.pc = (match r.pc with | some v => v | none => s.cpu.pc) ∧
      t.cpu.a = (match r.a with | some v => v | none => s.cpu.a) ∧
      t.cpu.x = (match r.x with | some v => v | none => s.cpu.x) ∧
      t.cpu.y = (match r.y with | some v => v | none => s.cpu.y) ∧
      t.cpu.absoluteAddress =
        (match r.absoluteAddress with | some v => v | none => s.cpu.absoluteAddress) ∧
      t.cpu.relativeOffset =
        (match r.relativeOffset with | some v => v | none => s.cpu.relativeOffset) ∧
      t.cpu.fetchedOperand =
        (match r.fetchedOperand with | some v => v | none => s.cpu.fetchedOperand)) ∧
  (∀ s : State, s.script = [] → step s = .next s)

/-- R300: no step stops the machine; every failure is a typed result. The spec's own choice (D31), and the
model's for the form of a failure (log entry 7) and for an empty script (log entry 4). -/
def Obligations.EveryStepAnswersANextState : Prop :=
  ∀ s : State, ∃ t, step s = .next t

/-! ### The Address Bus -/

/-- R250, with the code it gives BUS_RD and its example at session start. -/
def Obligations.BusReadReturnsTheByte : Prop :=
  (∀ (a : Word) (data : Byte) (stream : List Byte), decode ⟨0x10#8, a, data, stream⟩ = .ok (.busRd a)) ∧
  (∀ (s : State) (a : Word),
    exec (.busRd a) s = .next { s with result := some (.ok (.byte (s.memRead a))) }) ∧
  (∀ a : Word, exec (.busRd a) State.reset =
    .next { State.reset with result := some (.ok (.byte 0x00#8)) })

/-- R251, with the code it gives BUS_WR: the one byte at addr takes the data, every other byte and every other
piece of state stays. -/
def Obligations.BusWriteStoresOneByte : Prop :=
  (∀ (a : Word) (v : Byte) (stream : List Byte), decode ⟨0x11#8, a, v, stream⟩ = .ok (.busWr a v)) ∧
  (∀ (s : State) (a : Word) (v : Byte), Memory.wf s.bus →
    ∃ t, exec (.busWr a v) s = .next t ∧
      (∀ b : Word, t.memRead b = if b = a then v else s.memRead b) ∧ Memory.wf t.bus ∧
      t = { s with bus := t.bus, result := some (.ok .empty) })

/-- R252: an address past the bus reads 0 and its write is ignored. -/
def Obligations.PastTheBusReadsZeroAndIgnoresWrites : Prop :=
  ∀ (m : List Host.Cell) (a : Nat) (v : Byte), 65536 ≤ a →
    Memory.read m a = 0x00#8 ∧ Memory.write m a v = m

/-- R254 (the spec's inference from R250, R251): BUS_WR a, v, then any transactions with no BUS_WR to a, then
BUS_RD a returns v. -/
def Obligations.BusRoundTrip : Prop :=
  ∀ (s t u : State) (a : Word) (v : Byte) (between : List Instr), Memory.wf s.bus →
    exec (.busWr a v) s = .next t → (∀ i ∈ between, ∀ d, i ≠ .busWr a d) → Runs between t u →
    exec (.busRd a) u = .next { u with result := some (.ok (.byte v)) }

/-! ### The twelve resolvers -/

/-- R263, with the code it gives IMP. -/
def Obligations.ImpliedDeliversTheAccumulator : Prop :=
  (∀ (addr : Word) (data : Byte) (stream : List Byte), decode ⟨0x00#8, addr, data, stream⟩ = .ok .imp) ∧
  (∀ s : State, exec .imp s = .next { s with
    cpu := { s.cpu with fetchedOperand := s.cpu.a }, result := some (.ok (.bool false)) })

/-- R264, with the code it gives IMM. -/
def Obligations.ImmediateAddressesThePc : Prop :=
  (∀ (addr : Word) (data : Byte) (stream : List Byte), decode ⟨0x01#8, addr, data, stream⟩ = .ok .imm) ∧
  (∀ s : State, exec .imm s = .next { s with
    cpu := { s.cpu with absoluteAddress := s.cpu.pc, pc := s.cpu.pc + 1 },
    result := some (.ok (.bool false)) })

/-- R265, R266, R267, with the codes they give: the operand byte plus the index (none, X, Y), modulo 256. -/
def Obligations.ZeroPageModesStayInPageZero : Prop :=
  (∀ (addr : Word) (data : Byte) (stream : List Byte),
    decode ⟨0x02#8, addr, data, stream⟩ = .ok .zp0 ∧ decode ⟨0x03#8, addr, data, stream⟩ = .ok .zpx ∧
    decode ⟨0x04#8, addr, data, stream⟩ = .ok .zpy) ∧
  ∀ (s : State) (i : Instr) (index : Byte),
    (i, index) ∈ [(Instr.zp0, 0x00#8), (.zpx, s.cpu.x), (.zpy, s.cpu.y)] →
    exec i s = .next { s with
      cpu := { s.cpu with
        absoluteAddress := BitVec.ofNat 16 (((s.memRead s.cpu.pc).toNat + index.toNat) % 256)
        pc := s.cpu.pc + 1 }
      result := some (.ok (.bool false)) }

/-- R268, with the code it gives ABS: low byte first. -/
def Obligations.AbsoluteIsLittleEndian : Prop :=
  (∀ (addr : Word) (data : Byte) (stream : List Byte), decode ⟨0x05#8, addr, data, stream⟩ = .ok .abs) ∧
  (∀ s : State, exec .abs s = .next { s with
    cpu := { s.cpu with
      absoluteAddress := s.memRead (s.cpu.pc + 1) ++ s.memRead s.cpu.pc
      pc := s.cpu.pc + 2 }
    result := some (.ok (.bool false)) })

/-- R269, R271, with the codes they give: the address is the sum modulo 65536, the extra cycle PageCross of it. That
PageCross is the carry out of the low byte is the spec's inference, R270 (PageCrossIsTheCarryOfTheLowByte). -/
def Obligations.AbsoluteIndexedAddsAndReportsThePageCross : Prop :=
  (∀ (addr : Word) (data : Byte) (stream : List Byte),
    decode ⟨0x06#8, addr, data, stream⟩ = .ok .abx ∧ decode ⟨0x07#8, addr, data, stream⟩ = .ok .aby) ∧
  ∀ (s : State) (i : Instr) (index : Byte),
    (i, index) ∈ [(Instr.abx, s.cpu.x), (.aby, s.cpu.y)] →
    exec i s = .next { s with
      cpu := { s.cpu with
        absoluteAddress := BitVec.ofNat 16
          ((s.memRead (s.cpu.pc + 1)).toNat * 256 + (s.memRead s.cpu.pc).toNat + index.toNat)
        pc := s.cpu.pc + 2 }
      result := some (.ok (.bool (256 ≤ (s.memRead s.cpu.pc).toNat + index.toNat))) }

/-- R270 (the spec's inference from R8 and the formula of §4.6): PageCross of an indexed address holds iff the
low bytes carry. -/
def Obligations.PageCrossIsTheCarryOfTheLowByte : Prop :=
  ∀ hi lo i : Byte, pageCross (indexed (pair hi lo) i) hi = true ↔ 256 ≤ lo.toNat + i.toNat

/-- R272, with the page-wrap bug: a pointer whose low byte is 0xFF takes its high byte from the start of its
own page. The byte order is the spec's own choice (D33, log entry 23). -/
def Obligations.IndirectReproducesThePageWrapBug : Prop :=
  ∀ (s : State) (plo phi : Byte), plo = s.memRead s.cpu.pc → phi = s.memRead (s.cpu.pc + 1) →
    exec .ind s = .next { s with
      cpu := { s.cpu with
        absoluteAddress :=
          s.memRead (if plo.toNat = 255 then phi ++ 0x00#8
            else BitVec.ofNat 16 (phi.toNat * 256 + plo.toNat + 1)) ++
          s.memRead (phi ++ plo)
        pc := s.cpu.pc + 2 }
      result := some (.ok (.bool false)) }

/-- R273: both pointer bytes come from page 0x00. Where the high byte is read is the spec's own choice (D25,
log entry 15). -/
def Obligations.IndirectXReadsAPointerInPageZero : Prop :=
  ∀ (s : State) (t : Byte), t = s.memRead s.cpu.pc →
    exec .izx s = .next { s with
      cpu := { s.cpu with
        absoluteAddress :=
          s.memRead (BitVec.ofNat 16 ((t.toNat + s.cpu.x.toNat + 1) % 256)) ++
          s.memRead (BitVec.ofNat 16 ((t.toNat + s.cpu.x.toNat) % 256))
        pc := s.cpu.pc + 1 }
      result := some (.ok (.bool false)) }

/-- R274: the pointer is read from page 0x00, then Y is added. Where the high byte is read is the spec's own
choice (D26, log entry 15). -/
def Obligations.IndirectYIndexesThePointerItReads : Prop :=
  ∀ (s : State) (t lo hi : Byte), t = s.memRead s.cpu.pc →
    lo = s.memRead (BitVec.ofNat 16 t.toNat) → hi = s.memRead (BitVec.ofNat 16 ((t.toNat + 1) % 256)) →
    exec .izy s = .next { s with
      cpu := { s.cpu with
        absoluteAddress := BitVec.ofNat 16 (hi.toNat * 256 + lo.toNat + s.cpu.y.toNat)
        pc := s.cpu.pc + 1 }
      result := some (.ok (.bool (256 ≤ lo.toNat + s.cpu.y.toNat))) }

/-- R275, R111: the offset byte, sign-extended; PC is advanced past it and never set to a target. That the
extra-cycle flag is false is the spec's own choice (D27, log entry 23). -/
def Obligations.RelativeSignExtendsTheOffset : Prop :=
  ∀ s : State, exec .rel s = .next { s with
    cpu := { s.cpu with
      relativeOffset := (s.memRead s.cpu.pc).signExtend 16
      pc := s.cpu.pc + 1 }
    result := some (.ok (.bool false)) }

/-- R260, R108: the frame of the twelve resolvers, each with the one output it writes. That the others keep
their values is the spec's own choice (D24, log entry 23). -/
def Obligations.ResolversWritePcAndOneOutput : Prop :=
  ∀ (s : State) (i : Instr),
    i ∈ [Instr.imp, .imm, .zp0, .zpx, .zpy, .abs, .abx, .aby, .ind, .izx, .izy, .rel] →
    ∃ t extra, exec i s = .next t ∧ t = { s with cpu := t.cpu, result := some (.ok (.bool extra)) } ∧
      t.cpu.pc = s.cpu.pc + BitVec.ofNat 16 (operandBytes i) ∧
      t.cpu.a = s.cpu.a ∧ t.cpu.x = s.cpu.x ∧ t.cpu.y = s.cpu.y ∧
      (i ≠ .imp → t.cpu.fetchedOperand = s.cpu.fetchedOperand) ∧
      (i ≠ .rel → t.cpu.relativeOffset = s.cpu.relativeOffset) ∧
      (i = .imp ∨ i = .rel → t.cpu.absoluteAddress = s.cpu.absoluteAddress) ∧
      (i ∉ [Instr.abx, .aby, .izy] → extra = false)

/-- R262: no transaction but BUS_WR depends on a bus byte outside the reads its rule lists (the spec's own
choice of the list, D28, log entry 23). -/
def Obligations.NoReadAhead : Prop :=
  ∀ (s t : State) (i : Instr) (bus : List Host.Cell), (∀ a v, i ≠ .busWr a v) →
    (∀ a ∈ busReads i s, Memory.read bus a.toNat = s.memRead a) →
    exec i s = .next t → exec i { s with bus := bus } = .next { t with bus := bus }

/-! ### The cartridge loader -/

/-- R131, R136 to R143: an image of a 16-byte header, its PRG and CHR bodies and anything after them loads,
every field of the cartridge at once. The ignored bytes and the allocation oracle are the spec's own choices (D5,
D6, D7, log entries 2 and 20). -/
def Obligations.LoadBuildsTheCartridge : Prop :=
  ∀ (s : State) (header prg chr rest : List Byte) (h4 h5 h6 h7 h9 h10 : Byte),
    s.stack = .empty → header.length = 16 →
    header[4]? = some h4 → header[5]? = some h5 → header[6]? = some h6 → header[7]? = some h7 →
    header[9]? = some h9 → header[10]? = some h10 →
    h6.getLsbD 2 = false → h4 ≠ 0#8 → prg.length = h4.toNat * 0x4000 → chr.length = h5.toNat * 0x2000 →
    s.alloc.prg = true → (h5 ≠ 0#8 → s.alloc.chr = true) →
    exec (.load (header ++ prg ++ chr ++ rest)) s = .next { s with
      stack := .loaded {
        prg := prg, chr := chr, prgBankCount := h4, chrBankCount := h5
        mapperNumber := BitVec.ofNat 8 (h7.toNat / 16 * 16 + h6.toNat / 16)
        nameTableMirroring :=
          if h6.toNat / 8 % 2 = 1 then .fourScreen
          else if h6.toNat % 2 = 1 then .vertical else .horizontal
        hasExtendedRAM := h6.toNat / 2 % 2 = 1
        tvFlags9 := h9, tvFlags10 := h10 }
      result := some (.ok .empty) }

/-- R131 to R139, R306: the checks in their order, each with the error it raises and no state change. The order
and the allocation oracle are the spec's own choices (D5, log entries 2 and 20). -/
def Obligations.LoadReportsTheFirstFailingCheck : Prop :=
  ∀ (s : State) (stream : List Byte) (e : LoadError), s.stack = .empty →
    (let h4 := (stream.getD 4 0x00#8).toNat
     let h5 := (stream.getD 5 0x00#8).toNat
     let trainer := (stream.getD 6 0x00#8).toNat / 4 % 2
     let n := stream.length
     (n < 16 ∧ e = .truncatedHeader) ∨
     (16 ≤ n ∧ trainer = 1 ∧ e = .trainerUnsupported) ∨
     (16 ≤ n ∧ trainer = 0 ∧ h4 = 0 ∧ e = .noPrgBanks) ∨
     (16 ≤ n ∧ trainer = 0 ∧ h4 ≠ 0 ∧ s.alloc.prg = false ∧ e = .allocationFailure) ∨
     (16 ≤ n ∧ trainer = 0 ∧ h4 ≠ 0 ∧ s.alloc.prg = true ∧ n < 16 + h4 * 0x4000 ∧ e = .truncatedPrg) ∨
     (trainer = 0 ∧ h4 ≠ 0 ∧ s.alloc.prg = true ∧ 16 + h4 * 0x4000 ≤ n ∧ h5 ≠ 0 ∧ s.alloc.chr = false ∧
        e = .allocationFailure) ∨
     (trainer = 0 ∧ h4 ≠ 0 ∧ s.alloc.prg = true ∧ 16 + h4 * 0x4000 ≤ n ∧ h5 ≠ 0 ∧ s.alloc.chr = true ∧
        n < 16 + h4 * 0x4000 + h5 * 0x2000 ∧ e = .truncatedChr)) →
    exec (.load stream) s = .next { s with result := some (.loadError e) }

/-- R144: one load per session, the spec's own choice (D30, log entry 22). -/
def Obligations.LoadIsRefusedUnlessEmpty : Prop :=
  ∀ (s : State) (stream : List Byte), s.phase ≠ .empty →
    exec (.load stream) s = .next { s with refused := true, result := some (.refused .loadNotEmpty) }

/-- R145: a LOAD that returns an error leaves no cartridge and changes no other state. That the result is a
field of the state is the model's choice (log entry 3). -/
def Obligations.FailedLoadLeavesNothing : Prop :=
  ∀ (s t : State) (stream : List Byte) (e : LoadError), exec (.load stream) s = .next t →
    t.result = some (.loadError e) →
    t = { s with result := some (.loadError e) } ∧ t.cart = none ∧ t.phase = .empty

/-! ### Mapper construction and the callback -/

/-- R162, R163: the mapper numbers NROM, CNROM and every unsupported one; R220: CNROM's construction. The
numbers 3 and 7 are the spec's own choice (D8, log entry 13); the bank at construction is an OPEN parameter (D21,
log entry 9). -/
def Obligations.MapNewSelectsTheVariant : Prop :=
  ∀ (s : State) (c : Cartridge), s.stack = .loaded c →
    (c.mapperNumber.toNat = 0 →
      exec .mapNew s = .next { s with stack := .mapped c .nrom, result := some (.ok .empty) }) ∧
    (c.mapperNumber.toNat = 3 →
      exec .mapNew s = .next { s with
        stack := .mapped c (.cnrom {
          selectedChrBank := Config.cnromInitChrBank
          singleBank := c.prgBankCount.toNat = 1 })
        result := some (.ok .empty) }) ∧
    (c.mapperNumber.toNat ∉ [0, 3, 7] →
      exec .mapNew s = .next { s with
        refused := true, result := some (.refused .unsupportedMapper) })

/-- R190, R191: AxROM's construction, with character RAM exactly when there is no CHR ROM, and its one failure.
The number 7 and the size 8192 are the spec's own choices (D8, D13, log entries 13 and 14); the initial values are
OPEN parameters (D14 to D16, log entry 9) and the answer an OPEN oracle (D36, log entry 2). -/
def Obligations.MapNewConstructsAxrom : Prop :=
  ∀ (s : State) (c : Cartridge), s.stack = .loaded c → c.mapperNumber.toNat = 7 →
    (c.chr ≠ [] →
      exec .mapNew s = .next { s with
        stack := .mapped c (.axrom {
          selectedPrgBank := Config.axromInitPrgBank, characterRam := none
          mirroringMode := Config.axromInitMirroring })
        result := some (.ok .empty) }) ∧
    (c.chr = [] → s.alloc.chrRam = true →
      ∃ ram : List Byte, ram.length = 8192 ∧ (∀ i < 8192, ram[i]? = some (Config.chrRamInit i)) ∧
        exec .mapNew s = .next { s with
          stack := .mapped c (.axrom {
            selectedPrgBank := Config.axromInitPrgBank, characterRam := some ram
            mirroringMode := Config.axromInitMirroring })
          result := some (.ok .empty) }) ∧
    (c.chr = [] → s.alloc.chrRam = false →
      exec .mapNew s = .next { s with result := some (.mapperError .noGraphicsSource) })

/-- R164: the Null variant over any loaded cartridge, the spec's own choice (D9, log entry 21). -/
def Obligations.MapNewNullConstructsTheNullVariant : Prop :=
  ∀ (s : State) (c : Cartridge), s.stack = .loaded c →
    exec .mapNewNull s = .next { s with stack := .mapped c .null, result := some (.ok .empty) }

/-- R161, R164, R165: construction is refused in phase Empty with NoCartridge and in phase Mapped with
MapperActive, the spec's own choice (D30, log entry 22). -/
def Obligations.ConstructionIsRefusedOutsideLoaded : Prop :=
  ∀ (s : State) (i : Instr), i = .mapNew ∨ i = .mapNewNull →
    (s.phase = .empty →
      exec i s = .next { s with refused := true, result := some (.refused .noCartridge) }) ∧
    (s.phase = .mapped →
      exec i s = .next { s with refused := true, result := some (.refused .mapperActive) })

/-- R106, R179: the spec's own choice (D20, log entry 19). -/
def Obligations.CbSetFollowsBitZero : Prop :=
  ∀ (s : State) (d : Byte),
    exec (.cbSet d) s = .next { s with
      callbackRegistered := d.toNat % 2 = 1, result := some (.ok .empty) }

/-! ### The mapper ports -/

/-- R178: the seven ports are refused in every phase but Mapped, the spec's own choice (D30, log entry 22). -/
def Obligations.PortsAreRefusedWithoutAMapper : Prop :=
  ∀ (s : State) (a : Word) (d : Byte) (i : Instr), s.phase ≠ .mapped →
    i ∈ [Instr.prgRd a, .chrRd a, .prgWr a d, .chrWr a d, .getMirr, .hasXram, .scanline] →
    exec i s = .next { s with refused := true, result := some (.refused .noMapper) }

/-- R169 to R172: the Null variant reads 0 without a log and ignores writes, the spec's own choice (D9, log
entry 21). -/
def Obligations.NullReadsZeroAndIgnoresWrites : Prop :=
  ∀ (s : State) (c : Cartridge) (a : Word) (d : Byte), s.stack = .mapped c .null →
    exec (.prgRd a) s = .next { s with result := some (.ok (.byte 0x00#8)) } ∧
    exec (.chrRd a) s = .next { s with result := some (.ok (.byte 0x00#8)) } ∧
    exec (.prgWr a d) s = .next { s with result := some (.ok .empty) } ∧
    exec (.chrWr a d) s = .next { s with result := some (.ok .empty) }

/-- R174, R221, R180: the fixed PRG translation of NROM and CNROM, mirrored every 16 KiB for a single bank; past
the image it reads 0 and logs. NROM's translation and the zero past the image are the spec's own choices (D10, D12,
log entry 16). -/
def Obligations.FixedPrgTranslation : Prop :=
  ∀ (s : State) (c : Cartridge) (m : Mapper) (single : Bool) (a : Word) (off : Nat),
    s.stack = .mapped c m →
    ((m = .nrom ∧ single = decide (c.prgBankCount.toNat = 1)) ∨
      ∃ n : CnromState, m = .cnrom n ∧ single = n.singleBank) →
    off = (if single then (a.toNat + 0x8000) % 65536 % 0x4000 else (a.toNat + 0x8000) % 65536) →
    exec (.prgRd a) s = .next (match c.prg[off]? with
      | some b => { s with result := some (.ok (.byte b)) }
      | none => { s with
          trace := s.trace ++ [.log .prgOutOfRange], result := some (.ok (.byte 0x00#8)) })

/-- R175, R176, R177: NROM's CHR ROM, and its writes that change nothing, the spec's own choice (D11, log entry
17). -/
def Obligations.NromChrAndWrites : Prop :=
  ∀ (s : State) (c : Cartridge) (a : Word) (d : Byte), s.stack = .mapped c .nrom →
    (∀ b, c.chr[a.toNat]? = some b →
      exec (.chrRd a) s = .next { s with result := some (.ok (.byte b)) }) ∧
    (c.chr.length ≤ a.toNat → c.chr ≠ [] →
      exec (.chrRd a) s = .next { s with
        trace := s.trace ++ [.log .chrRomOutOfRange], result := some (.ok (.byte 0x00#8)) }) ∧
    (c.chr = [] →
      exec (.chrRd a) s = .next { s with
        trace := s.trace ++ [.log .noChrRom], result := some (.ok (.byte 0x00#8)) }) ∧
    exec (.prgWr a d) s = .next { s with result := some (.ok .empty) } ∧
    exec (.chrWr a d) s = .next { s with result := some (.ok .empty) }

/-- R192, R180: the 32 KiB window of the selected bank, bit 15 of the address ignored. The zero past the image is
the spec's own choice (D12, log entry 16). -/
def Obligations.AxromPrgReadIsTheSelectedWindow : Prop :=
  ∀ (s : State) (c : Cartridge) (m : AxromState) (a : Word), s.stack = .mapped c (.axrom m) →
    exec (.prgRd a) s =
      .next (match c.prg[m.selectedPrgBank.toNat * 0x8000 + a.toNat % 0x8000]? with
        | some b => { s with result := some (.ok (.byte b)) }
        | none => { s with
            trace := s.trace ++ [.log .prgOutOfRange], result := some (.ok (.byte 0x00#8)) })

/-- R194, R195, R196: at addr ≥ 0x8000 the low three bits select the bank and bit 4 the mirroring, with one
event per write while a callback is registered; below it nothing happens. The event and the effect below 0x8000 are
the spec's own choices (D20, D17, log entries 19 and 18). -/
def Obligations.AxromPrgWriteSelectsBankAndMirroring : Prop :=
  ∀ (s : State) (c : Cartridge) (m : AxromState) (a : Word) (d : Byte),
    s.stack = .mapped c (.axrom m) →
    exec (.prgWr a d) s = .next (
      if 0x8000 ≤ a.toNat then { s with
        stack := .mapped c (.axrom { m with
          selectedPrgBank := BitVec.ofNat 3 (d.toNat % 8)
          mirroringMode := if d.toNat / 16 % 2 = 1 then .higher else .lower })
        trace := s.trace ++ (if s.callbackRegistered
          then [.mirroring (if d.toNat / 16 % 2 = 1 then .oneScreenHigher else .oneScreenLower)] else [])
        result := some (.ok .empty) }
      else { s with result := some (.ok .empty) })

/-- R193: AxROM reads its character RAM, and 0 with a log where there is none. The size and the logs are the
spec's own choices (D13, D23, log entries 14 and 17). -/
def Obligations.AxromChrReadIsTheCharacterRam : Prop :=
  ∀ (s : State) (c : Cartridge) (m : AxromState) (a : Word), s.stack = .mapped c (.axrom m) →
    (∀ ram b, m.characterRam = some ram → a.toNat < 8192 → ram[a.toNat]? = some b →
      exec (.chrRd a) s = .next { s with result := some (.ok (.byte b)) }) ∧
    (∀ ram, m.characterRam = some ram → 8192 ≤ a.toNat →
      exec (.chrRd a) s = .next { s with
        trace := s.trace ++ [.log .chrRamOutOfRange], result := some (.ok (.byte 0x00#8)) }) ∧
    (m.characterRam = none →
      exec (.chrRd a) s = .next { s with
        trace := s.trace ++ [.log .noChrRam], result := some (.ok (.byte 0x00#8)) })

/-- R197: a write in range stores one byte of the character RAM; out of range it stores nothing and logs;
without character RAM it is ignored. The size and the log are the spec's own choices (D13, D19, log entries 14 and
18). -/
def Obligations.AxromChrWriteStoresOneByte : Prop :=
  ∀ (s : State) (c : Cartridge) (m : AxromState) (a : Word) (v : Byte),
    s.stack = .mapped c (.axrom m) →
    (∀ ram, m.characterRam = some ram → ram.length = 8192 → a.toNat < 8192 →
      ∃ ram' : List Byte, ram'.length = 8192 ∧
        (∀ b : Nat, ram'[b]? = if b = a.toNat then some v else ram[b]?) ∧
        exec (.chrWr a v) s = .next { s with
          stack := .mapped c (.axrom { m with characterRam := some ram' })
          result := some (.ok .empty) }) ∧
    (∀ ram, m.characterRam = some ram → 8192 ≤ a.toNat →
      exec (.chrWr a v) s = .next { s with
        trace := s.trace ++ [.log .chrRamOutOfRange], result := some (.ok .empty) }) ∧
    (m.characterRam = none →
      exec (.chrWr a v) s = .next { s with result := some (.ok .empty) })

/-- R222, R223: CNROM ORs the bank into bits 13 and 14 of the address and reads CHR ROM there. The log without
CHR ROM is the spec's own choice (D23, log entry 17). -/
def Obligations.CnromChrReadOrsTheBank : Prop :=
  ∀ (s : State) (c : Cartridge) (m : CnromState) (a : Word) (e : Nat),
    s.stack = .mapped c (.cnrom m) → e = a.toNat ||| m.selectedChrBank.toNat * 8192 →
    (∀ b, c.chr[e]? = some b →
      exec (.chrRd a) s = .next { s with result := some (.ok (.byte b)) }) ∧
    (c.chr.length ≤ e → c.chr ≠ [] →
      exec (.chrRd a) s = .next { s with
        trace := s.trace ++ [.log .chrRomOutOfRange], result := some (.ok (.byte 0x00#8)) }) ∧
    (c.chr = [] →
      exec (.chrRd a) s = .next { s with
        trace := s.trace ++ [.log .noChrRom], result := some (.ok (.byte 0x00#8)) })

/-- R224, R225: a CNROM PRG write at any address selects the CHR bank; a CHR write changes nothing. -/
def Obligations.CnromWritesSelectTheChrBank : Prop :=
  ∀ (s : State) (c : Cartridge) (m : CnromState) (a : Word) (d : Byte),
    s.stack = .mapped c (.cnrom m) →
    exec (.prgWr a d) s = .next { s with
      stack := .mapped c (.cnrom { m with selectedChrBank := BitVec.ofNat 2 (d.toNat % 4) })
      result := some (.ok .empty) } ∧
    exec (.chrWr a d) s = .next { s with result := some (.ok .empty) }

/-- R199 (the spec's inference from R192, R194, R196): the source's testable properties of AxROM. The event is
the spec's own choice (D20, log entry 19). -/
def Obligations.AxromTestableProperties : Prop :=
  ∀ (s t : State) (c : Cartridge) (m : AxromState) (a : Word), s.stack = .mapped c (.axrom m) →
    0x8000 ≤ a.toNat →
    (exec (.prgWr a 0x05#8) s = .next t → (∃ m', t.mapper = some (.axrom m') ∧ m'.selectedPrgBank = 5) ∧
      ∀ b, c.prg[5 * 0x8000]? = some b →
        exec (.prgRd 0x0000#16) t = .next { t with result := some (.ok (.byte b)) }) ∧
    (exec (.prgWr a 0x10#8) s = .next t → s.callbackRegistered = true →
      (∃ m', t.mapper = some (.axrom m') ∧ m'.mirroringMode = .higher) ∧
      t.trace = s.trace ++ [.mirroring .oneScreenHigher])

/-- R226 (the spec's inference from R221, R222, R224): the source's testable properties of CNROM. -/
def Obligations.CnromTestableProperties : Prop :=
  ∀ (s : State) (c : Cartridge) (m : CnromState), s.stack = .mapped c (.cnrom m) →
    (∀ t u, m.singleBank = true → exec (.prgRd 0x8000#16) s = .next t → exec (.prgRd 0xC000#16) s = .next u →
      t = u) ∧
    (∀ t a, exec (.prgWr a 0x02#8) s = .next t →
      (∃ m', t.mapper = some (.cnrom m') ∧ m'.selectedChrBank = 2) ∧
      ∀ b, c.chr[2 * 0x2000]? = some b →
        exec (.chrRd 0x0000#16) t = .next { t with result := some (.ok (.byte b)) })

/-- R166, R198: the base forwards to the cartridge; AxROM answers its own mode, and never writes the cartridge's
(the spec's own choice D37, log entry 18). -/
def Obligations.GetMirrForwardsExceptAxrom : Prop :=
  ∀ (s : State) (c : Cartridge) (m : Mapper), s.stack = .mapped c m →
    (m.kind ≠ .axrom →
      exec .getMirr s = .next { s with result := some (.ok (.mirroring c.nameTableMirroring)) }) ∧
    (∀ a, m = .axrom a →
      exec .getMirr s = .next { s with
        result := some (.ok (.mirroring
          (match a.mirroringMode with | .lower => .oneScreenLower | .higher => .oneScreenHigher))) })

/-- R167, R168: every variant forwards HAS_XRAM (for AxROM the spec's own choice D18, log entry 18), and
SCANLINE changes nothing. -/
def Obligations.HasXramForwardsAndScanlineIsANoOp : Prop :=
  ∀ (s : State) (c : Cartridge) (m : Mapper), s.stack = .mapped c m →
    exec .hasXram s = .next { s with result := some (.ok (.bool c.hasExtendedRAM)) } ∧
    exec .scanline s = .next { s with result := some (.ok .empty) }

/-! ### Rules of the whole machine -/

/-- R21: only LOAD moves Empty to Loaded, only MAP_NEW and MAP_NEW_NULL move Loaded to Mapped, and no transaction
moves the phase back. The phases are the spec's own choice (D30, log entry 22). -/
def Obligations.PhaseMovesOnlyForward : Prop :=
  ∀ (s t : State) (i : Instr), exec i s = .next t → s.phase ≠ t.phase →
    (s.phase = .empty ∧ t.phase = .loaded ∧ ∃ stream, i = .load stream) ∨
    (s.phase = .loaded ∧ t.phase = .mapped ∧ (i = .mapNew ∨ i = .mapNewNull))

/-- R28 to R36, R42: no transaction writes a loaded cartridge, changes the kind of an active mapper, or writes CNROM's
singleBank. R35 says so of prg and chr; that nameTableMirroring is never written is the spec's own choice D37 (log
entry 18), and that no second LOAD or MAP_NEW replaces cart or mapper is its own choice D30 (log entry 22). -/
def Obligations.CartridgeAndMapperKindAreFixed : Prop :=
  ∀ (s t : State) (i : Instr), exec i s = .next t →
    (∀ c, s.cart = some c → t.cart = some c) ∧
    (∀ m, s.mapper = some m → ∃ m', t.mapper = some m' ∧ m'.kind = m.kind) ∧
    (∀ n, s.mapper = some (.cnrom n) →
      ∃ n', t.mapper = some (.cnrom n') ∧ n'.singleBank = n.singleBank)

/-- R37, R38, R39, R41: which transactions write a mapper's registers, and that no other does. The address range
of AxROM's registers is the spec's own choice (D17, log entry 18). -/
def Obligations.OnlyMapperWritesChangeAMapper : Prop :=
  ∀ (s t : State) (i : Instr), exec i s = .next t →
    (∀ m, s.mapper = some (.axrom m) → ∃ m', t.mapper = some (.axrom m') ∧
      ((∀ a d, i = .prgWr a d → a.toNat < 0x8000) →
        m'.selectedPrgBank = m.selectedPrgBank ∧ m'.mirroringMode = m.mirroringMode) ∧
      ((∀ a d, i ≠ .chrWr a d) → m'.characterRam = m.characterRam)) ∧
    (∀ n, s.mapper = some (.cnrom n) → (∀ a d, i ≠ .prgWr a d) → t.mapper = some (.cnrom n))

/-- R23, R40, R61, R260: each field has its own writers: A, X and Y no transaction, the other registers only the
resolvers (the spec's own choice D24, log entry 23), the bus only BUS_WR, the callback mark only CB_SET (the spec's
own choice D20, log entry 19); the host's answers and the script none (the model's own fields, log entries 2 and 3). -/
def Obligations.EachFieldHasItsOwnWriters : Prop :=
  ∀ (s t : State) (i : Instr), exec i s = .next t →
    t.cpu.a = s.cpu.a ∧ t.cpu.x = s.cpu.x ∧ t.cpu.y = s.cpu.y ∧
    (i ∉ [Instr.imp, .imm, .zp0, .zpx, .zpy, .abs, .abx, .aby, .ind, .izx, .izy, .rel] → t.cpu = s.cpu) ∧
    ((∀ a v, i ≠ .busWr a v) → t.bus = s.bus) ∧
    ((∀ d, i ≠ .cbSet d) → t.callbackRegistered = s.callbackRegistered) ∧
    t.alloc = s.alloc ∧ t.script = s.script

/-- R45: the trace only grows at its end, and no transaction reads it: with any other trace in its place the same
events are appended and everything else comes out the same. The trace is the spec's own choice (D23, log entry 17). -/
def Obligations.TraceIsAppendOnlyAndNeverRead : Prop :=
  ∀ (s t : State) (i : Instr) (other : List Event), exec i s = .next t →
    ∃ events, t.trace = s.trace ++ events ∧
      exec i { s with trace := other } = .next { t with trace := other ++ events }

/-- R24, R25, R331: no transaction reads absoluteAddress, relativeOffset or fetchedOperand: with any other values in
them it leaves the same state, the output it writes included, but that the scratch registers it does not write keep
those values (D24, D29, log entries 23 and 1). -/
def Obligations.ScratchRegistersAreNeverRead : Prop :=
  ∀ (s t : State) (i : Instr) (w r : Word) (f : Byte), exec i s = .next t →
    exec i { s with cpu := { s.cpu with absoluteAddress := w, relativeOffset := r, fetchedOperand := f } } =
      .next { t with cpu := { t.cpu with
        absoluteAddress :=
          if i ∈ [Instr.imm, .zp0, .zpx, .zpy, .abs, .abx, .aby, .ind, .izx, .izy]
          then t.cpu.absoluteAddress else w
        relativeOffset := if i = .rel then t.cpu.relativeOffset else r
        fetchedOperand := if i = .imp then t.cpu.fetchedOperand else f } }

/-- R47, R303: a refused transaction sets the sticky mark and changes nothing else; no other transaction sets the
mark, and none clears it. The spec's own choice (D38, log entry 22); the result field is the model's (log entry 3). -/
def Obligations.RefusalSetsTheStickyMarkAlone : Prop :=
  ∀ (s t : State) (i : Instr), exec i s = .next t →
    (s.refused = true → t.refused = true) ∧
    (∀ r, t.result = some (.refused r) →
      t = { s with refused := true, result := some (.refused r) }) ∧
    ((∀ r, t.result ≠ some (.refused r)) → t.refused = s.refused)

/-- R93: the kind of result each transaction returns, the spec's own choice (D4, log entry 7). -/
def Obligations.EachTransactionReturnsItsKindOfResult : Prop :=
  ∀ (s t : State) (i : Instr), exec i s = .next t →
    ∃ r, t.result = some r ∧
      (∀ e, r = .loadError e → ∃ stream, i = .load stream) ∧
      (∀ e, r = .mapperError e → i = .mapNew) ∧
      (∀ v, r = .ok v → match i with
        | .imp | .imm | .zp0 | .zpx | .zpy | .abs | .abx | .aby | .ind | .izx | .izy | .rel | .hasXram =>
          ∃ b, v = .bool b
        | .busRd _ | .prgRd _ | .chrRd _ => ∃ b, v = .byte b
        | .getMirr => ∃ m, v = .mirroring m
        | .busWr _ _ | .prgWr _ _ | .chrWr _ _ | .scanline | .load _ | .mapNew | .mapNewNull | .cbSet _ =>
          v = .empty)

/-- R70, R71 (R71 is the spec's inference): a read changes no state but the trace (at most one log event, D23, log
entry 17), its result and, only if it is refused, the refused mark (D38, log entry 22); reading again returns the
same. -/
def Obligations.ReadsMutateNothingAndRepeat : Prop :=
  ∀ (s t : State) (a : Word) (i : Instr),
    i ∈ [Instr.busRd a, .prgRd a, .chrRd a, .getMirr, .hasXram, .scanline] → exec i s = .next t →
    t = { s with trace := t.trace, refused := t.refused, result := t.result } ∧
    ((∀ r, t.result ≠ some (.refused r)) → t.refused = s.refused) ∧
    (t.trace = s.trace ∨ ∃ k, t.trace = s.trace ++ [.log k]) ∧
    ∃ u, exec i t = .next u ∧ u.result = t.result
end

