-- ==== Sys2Proof/Laws/Memory.lean ====
section
/-! SUPPORT. What the bus memory operations do: a read after a write, and that a write keeps the canonical
form. -/

namespace Sys2Proof.Machine

/-- An address that no entry lists reads as the unlisted byte. -/
theorem Memory.lookup_of_notMem {m : List Host.Cell} {a : Nat} (h : ∀ c ∈ m, c.1 ≠ a) :
    Memory.lookup m a = Memory.unlisted := by
  induction m with
  | nil => rfl
  | cons c m ih =>
    obtain ⟨k, w⟩ := c
    have hk : k ≠ a := h (k, w) (by simp)
    simp only [Memory.lookup, hk, if_false]
    exact ih fun c hc => h c (by simp [hc])

/-- Every entry of an inserted list is the new one or an old one. -/
theorem Memory.mem_insert {m : List Host.Cell} {a : Nat} {v : Byte} {c : Host.Cell}
    (h : c ∈ Memory.insert m a v) : (c = (a, v) ∧ v ≠ Memory.unlisted) ∨ c ∈ m := by
  induction m with
  | nil =>
    simp only [Memory.insert] at h
    split at h
    · simp at h
    · exact .inl ⟨by simpa using h, ‹_›⟩
  | cons d m ih =>
    obtain ⟨k, w⟩ := d
    simp only [Memory.insert] at h
    split at h
    · split at h
      · exact .inr h
      · rcases List.mem_cons.mp h with h | h
        · exact .inl ⟨h, ‹_›⟩
        · exact .inr h
    · split at h
      · split at h
        · exact .inr (List.mem_cons_of_mem _ h)
        · rcases List.mem_cons.mp h with h | h
          · exact .inl ⟨h, ‹_›⟩
          · exact .inr (List.mem_cons_of_mem _ h)
      · rcases List.mem_cons.mp h with h | h
        · exact .inr (h ▸ List.mem_cons_self)
        · exact (ih h).imp_right (List.mem_cons_of_mem _)

/-- An insertion keeps the addresses strictly rising. -/
theorem Memory.insert_pairwise {m : List Host.Cell} (a : Nat) (v : Byte)
    (h : m.Pairwise fun c d => c.1 < d.1) :
    (Memory.insert m a v).Pairwise fun c d => c.1 < d.1 := by
  induction m with
  | nil => simp only [Memory.insert]; split <;> simp
  | cons d m ih =>
    obtain ⟨k, w⟩ := d
    have ⟨hd, hm⟩ := List.pairwise_cons.mp h
    simp only [Memory.insert]
    split
    · split
      · exact h
      · refine List.pairwise_cons.mpr ⟨fun c hc => ?_, h⟩
        rcases List.mem_cons.mp hc with rfl | hc
        · assumption
        · exact Nat.lt_trans ‹_› (hd c hc)
    · split
      · split
        · exact hm
        · subst_vars
          exact List.pairwise_cons.mpr ⟨hd, hm⟩
      · refine List.pairwise_cons.mpr ⟨fun c hc => ?_, ih hm⟩
        rcases Memory.mem_insert hc with ⟨rfl, -⟩ | hc
        · show k < a
          omega
        · exact hd c hc

/-- A write keeps the canonical form. -/
theorem Memory.write_wf {m : List Host.Cell} (a : Nat) (v : Byte) (h : Memory.wf m) :
    Memory.wf (Memory.write m a v) := by
  unfold Memory.write
  split
  · refine ⟨Memory.insert_pairwise a v h.1, fun c hc => ?_⟩
    rcases Memory.mem_insert hc with ⟨rfl, hv⟩ | hc
    · exact ⟨‹_›, hv⟩
    · exact h.2 c hc
  · exact h

/-- The empty memory of reset is in canonical form. -/
theorem Memory.nil_wf : Memory.wf [] := ⟨List.Pairwise.nil, by simp⟩

/-- What every address reads as after an insertion into a list with rising addresses. -/
theorem Memory.lookup_insert {m : List Host.Cell} (a b : Nat) (v : Byte)
    (h : m.Pairwise fun c d => c.1 < d.1) :
    Memory.lookup (Memory.insert m a v) b = if b = a then v else Memory.lookup m b := by
  induction m with
  | nil =>
    simp only [Memory.insert]
    split
    · by_cases hb : b = a <;> simp [Memory.lookup, *]
    · by_cases hb : b = a
      · simp [Memory.lookup, hb]
      · simp [Memory.lookup, hb, Ne.symm hb]
  | cons d m ih =>
    obtain ⟨k, w⟩ := d
    have ⟨hd, hm⟩ := List.pairwise_cons.mp h
    have above : ∀ x, x ≤ k → Memory.lookup m x = Memory.unlisted := fun x hx =>
      Memory.lookup_of_notMem fun c hc => by have := hd c hc; simp only at this; omega
    simp only [Memory.insert]
    by_cases hb : b = a
    · subst hb
      split
      · split
        · subst v
          have hk : k ≠ b := by omega
          simp only [Memory.lookup, hk, if_false, if_true, above b (by omega)]
        · simp [Memory.lookup]
      · split
        · split
          · subst v
            simp only [if_true, above b (by omega)]
          · simp [Memory.lookup]
        · have hk : k ≠ b := by omega
          simp only [Memory.lookup, hk, if_false, ih hm, if_true]
    · have hba : ¬ a = b := fun e => hb e.symm
      simp only [hb, if_false]
      split
      · split
        · rfl
        · simp [Memory.lookup, hba]
      · split
        · have hkb : ¬ k = b := by omega
          split <;> simp [Memory.lookup, hba, hkb]
        · simp only [Memory.lookup, ih hm, hb, if_false]

/-- Once for all: what every address reads as after a write (R251, R252). -/
theorem Memory.read_write {m : List Host.Cell} (a b : Nat) (v : Byte) (h : Memory.wf m) (ha : a < busSize) :
    Memory.read (Memory.write m a v) b = if b = a then v else Memory.read m b := by
  simp only [Memory.read, Memory.write, if_pos ha]
  split
  · exact Memory.lookup_insert a b v h.1
  · have : b ≠ a := by omega
    simp [this]

end Sys2Proof.Machine
end

