-- ==== Sys2Proof/Laws/State.lean ====
section
/-! SUPPORT. One lemma per field per update of State, true by unfolding, so that no later proof unfolds a
record update. -/

namespace Sys2Proof.Machine

variable (s : State)

/-! ### setPc -/

@[simp] theorem State.setPc_stack (v : Word) : (s.setPc v).stack = s.stack := rfl
@[simp] theorem State.setPc_cpu (v : Word) : (s.setPc v).cpu = { s.cpu with pc := v } := rfl
@[simp] theorem State.setPc_callbackRegistered (v : Word) : (s.setPc v).callbackRegistered = s.callbackRegistered := rfl
@[simp] theorem State.setPc_bus (v : Word) : (s.setPc v).bus = s.bus := rfl
@[simp] theorem State.setPc_trace (v : Word) : (s.setPc v).trace = s.trace := rfl
@[simp] theorem State.setPc_refused (v : Word) : (s.setPc v).refused = s.refused := rfl
@[simp] theorem State.setPc_alloc (v : Word) : (s.setPc v).alloc = s.alloc := rfl
@[simp] theorem State.setPc_script (v : Word) : (s.setPc v).script = s.script := rfl
@[simp] theorem State.setPc_result (v : Word) : (s.setPc v).result = s.result := rfl
@[simp] theorem State.setPc_memRead (v : Word) (w : Word) : (s.setPc v).memRead w = s.memRead w := rfl

/-! ### setAbsoluteAddress -/

@[simp] theorem State.setAbsoluteAddress_stack (v : Word) : (s.setAbsoluteAddress v).stack = s.stack := rfl
@[simp] theorem State.setAbsoluteAddress_cpu (v : Word) : (s.setAbsoluteAddress v).cpu = { s.cpu with absoluteAddress := v } := rfl
@[simp] theorem State.setAbsoluteAddress_callbackRegistered (v : Word) : (s.setAbsoluteAddress v).callbackRegistered = s.callbackRegistered := rfl
@[simp] theorem State.setAbsoluteAddress_bus (v : Word) : (s.setAbsoluteAddress v).bus = s.bus := rfl
@[simp] theorem State.setAbsoluteAddress_trace (v : Word) : (s.setAbsoluteAddress v).trace = s.trace := rfl
@[simp] theorem State.setAbsoluteAddress_refused (v : Word) : (s.setAbsoluteAddress v).refused = s.refused := rfl
@[simp] theorem State.setAbsoluteAddress_alloc (v : Word) : (s.setAbsoluteAddress v).alloc = s.alloc := rfl
@[simp] theorem State.setAbsoluteAddress_script (v : Word) : (s.setAbsoluteAddress v).script = s.script := rfl
@[simp] theorem State.setAbsoluteAddress_result (v : Word) : (s.setAbsoluteAddress v).result = s.result := rfl
@[simp] theorem State.setAbsoluteAddress_memRead (v : Word) (w : Word) : (s.setAbsoluteAddress v).memRead w = s.memRead w := rfl

/-! ### setRelativeOffset -/

@[simp] theorem State.setRelativeOffset_stack (v : Word) : (s.setRelativeOffset v).stack = s.stack := rfl
@[simp] theorem State.setRelativeOffset_cpu (v : Word) : (s.setRelativeOffset v).cpu = { s.cpu with relativeOffset := v } := rfl
@[simp] theorem State.setRelativeOffset_callbackRegistered (v : Word) : (s.setRelativeOffset v).callbackRegistered = s.callbackRegistered := rfl
@[simp] theorem State.setRelativeOffset_bus (v : Word) : (s.setRelativeOffset v).bus = s.bus := rfl
@[simp] theorem State.setRelativeOffset_trace (v : Word) : (s.setRelativeOffset v).trace = s.trace := rfl
@[simp] theorem State.setRelativeOffset_refused (v : Word) : (s.setRelativeOffset v).refused = s.refused := rfl
@[simp] theorem State.setRelativeOffset_alloc (v : Word) : (s.setRelativeOffset v).alloc = s.alloc := rfl
@[simp] theorem State.setRelativeOffset_script (v : Word) : (s.setRelativeOffset v).script = s.script := rfl
@[simp] theorem State.setRelativeOffset_result (v : Word) : (s.setRelativeOffset v).result = s.result := rfl
@[simp] theorem State.setRelativeOffset_memRead (v : Word) (w : Word) : (s.setRelativeOffset v).memRead w = s.memRead w := rfl

/-! ### setFetchedOperand -/

@[simp] theorem State.setFetchedOperand_stack (v : Byte) : (s.setFetchedOperand v).stack = s.stack := rfl
@[simp] theorem State.setFetchedOperand_cpu (v : Byte) : (s.setFetchedOperand v).cpu = { s.cpu with fetchedOperand := v } := rfl
@[simp] theorem State.setFetchedOperand_callbackRegistered (v : Byte) : (s.setFetchedOperand v).callbackRegistered = s.callbackRegistered := rfl
@[simp] theorem State.setFetchedOperand_bus (v : Byte) : (s.setFetchedOperand v).bus = s.bus := rfl
@[simp] theorem State.setFetchedOperand_trace (v : Byte) : (s.setFetchedOperand v).trace = s.trace := rfl
@[simp] theorem State.setFetchedOperand_refused (v : Byte) : (s.setFetchedOperand v).refused = s.refused := rfl
@[simp] theorem State.setFetchedOperand_alloc (v : Byte) : (s.setFetchedOperand v).alloc = s.alloc := rfl
@[simp] theorem State.setFetchedOperand_script (v : Byte) : (s.setFetchedOperand v).script = s.script := rfl
@[simp] theorem State.setFetchedOperand_result (v : Byte) : (s.setFetchedOperand v).result = s.result := rfl
@[simp] theorem State.setFetchedOperand_memRead (v : Byte) (w : Word) : (s.setFetchedOperand v).memRead w = s.memRead w := rfl

/-! ### advancePc -/

@[simp] theorem State.advancePc_stack : s.advancePc.stack = s.stack := rfl
@[simp] theorem State.advancePc_cpu : s.advancePc.cpu = { s.cpu with pc := s.cpu.pc + 1 } := rfl
@[simp] theorem State.advancePc_callbackRegistered : s.advancePc.callbackRegistered = s.callbackRegistered := rfl
@[simp] theorem State.advancePc_bus : s.advancePc.bus = s.bus := rfl
@[simp] theorem State.advancePc_trace : s.advancePc.trace = s.trace := rfl
@[simp] theorem State.advancePc_refused : s.advancePc.refused = s.refused := rfl
@[simp] theorem State.advancePc_alloc : s.advancePc.alloc = s.alloc := rfl
@[simp] theorem State.advancePc_script : s.advancePc.script = s.script := rfl
@[simp] theorem State.advancePc_result : s.advancePc.result = s.result := rfl
@[simp] theorem State.advancePc_memRead (w : Word) : s.advancePc.memRead w = s.memRead w := rfl

/-! ### setCpu -/

@[simp] theorem State.setCpu_stack (c : CpuRegisters) : (s.setCpu c).stack = s.stack := rfl
@[simp] theorem State.setCpu_cpu (c : CpuRegisters) : (s.setCpu c).cpu = c := rfl
@[simp] theorem State.setCpu_callbackRegistered (c : CpuRegisters) : (s.setCpu c).callbackRegistered = s.callbackRegistered := rfl
@[simp] theorem State.setCpu_bus (c : CpuRegisters) : (s.setCpu c).bus = s.bus := rfl
@[simp] theorem State.setCpu_trace (c : CpuRegisters) : (s.setCpu c).trace = s.trace := rfl
@[simp] theorem State.setCpu_refused (c : CpuRegisters) : (s.setCpu c).refused = s.refused := rfl
@[simp] theorem State.setCpu_alloc (c : CpuRegisters) : (s.setCpu c).alloc = s.alloc := rfl
@[simp] theorem State.setCpu_script (c : CpuRegisters) : (s.setCpu c).script = s.script := rfl
@[simp] theorem State.setCpu_result (c : CpuRegisters) : (s.setCpu c).result = s.result := rfl
@[simp] theorem State.setCpu_memRead (c : CpuRegisters) (w : Word) : (s.setCpu c).memRead w = s.memRead w := rfl

/-! ### memWrite -/

@[simp] theorem State.memWrite_stack (a : Word) (v : Byte) : (s.memWrite a v).stack = s.stack := rfl
@[simp] theorem State.memWrite_cpu (a : Word) (v : Byte) : (s.memWrite a v).cpu = s.cpu := rfl
@[simp] theorem State.memWrite_callbackRegistered (a : Word) (v : Byte) : (s.memWrite a v).callbackRegistered = s.callbackRegistered := rfl
@[simp] theorem State.memWrite_bus (a : Word) (v : Byte) : (s.memWrite a v).bus = Memory.write s.bus a.toNat v := rfl
@[simp] theorem State.memWrite_trace (a : Word) (v : Byte) : (s.memWrite a v).trace = s.trace := rfl
@[simp] theorem State.memWrite_refused (a : Word) (v : Byte) : (s.memWrite a v).refused = s.refused := rfl
@[simp] theorem State.memWrite_alloc (a : Word) (v : Byte) : (s.memWrite a v).alloc = s.alloc := rfl
@[simp] theorem State.memWrite_script (a : Word) (v : Byte) : (s.memWrite a v).script = s.script := rfl
@[simp] theorem State.memWrite_result (a : Word) (v : Byte) : (s.memWrite a v).result = s.result := rfl

/-! ### setStack -/

@[simp] theorem State.setStack_stack (k : Stack) : (s.setStack k).stack = k := rfl
@[simp] theorem State.setStack_cpu (k : Stack) : (s.setStack k).cpu = s.cpu := rfl
@[simp] theorem State.setStack_callbackRegistered (k : Stack) : (s.setStack k).callbackRegistered = s.callbackRegistered := rfl
@[simp] theorem State.setStack_bus (k : Stack) : (s.setStack k).bus = s.bus := rfl
@[simp] theorem State.setStack_trace (k : Stack) : (s.setStack k).trace = s.trace := rfl
@[simp] theorem State.setStack_refused (k : Stack) : (s.setStack k).refused = s.refused := rfl
@[simp] theorem State.setStack_alloc (k : Stack) : (s.setStack k).alloc = s.alloc := rfl
@[simp] theorem State.setStack_script (k : Stack) : (s.setStack k).script = s.script := rfl
@[simp] theorem State.setStack_result (k : Stack) : (s.setStack k).result = s.result := rfl
@[simp] theorem State.setStack_memRead (k : Stack) (w : Word) : (s.setStack k).memRead w = s.memRead w := rfl

/-! ### setCallback -/

@[simp] theorem State.setCallback_stack (b : Bool) : (s.setCallback b).stack = s.stack := rfl
@[simp] theorem State.setCallback_cpu (b : Bool) : (s.setCallback b).cpu = s.cpu := rfl
@[simp] theorem State.setCallback_callbackRegistered (b : Bool) : (s.setCallback b).callbackRegistered = b := rfl
@[simp] theorem State.setCallback_bus (b : Bool) : (s.setCallback b).bus = s.bus := rfl
@[simp] theorem State.setCallback_trace (b : Bool) : (s.setCallback b).trace = s.trace := rfl
@[simp] theorem State.setCallback_refused (b : Bool) : (s.setCallback b).refused = s.refused := rfl
@[simp] theorem State.setCallback_alloc (b : Bool) : (s.setCallback b).alloc = s.alloc := rfl
@[simp] theorem State.setCallback_script (b : Bool) : (s.setCallback b).script = s.script := rfl
@[simp] theorem State.setCallback_result (b : Bool) : (s.setCallback b).result = s.result := rfl
@[simp] theorem State.setCallback_memRead (b : Bool) (w : Word) : (s.setCallback b).memRead w = s.memRead w := rfl

/-! ### setScript -/

@[simp] theorem State.setScript_stack (l : List ScriptLine) : (s.setScript l).stack = s.stack := rfl
@[simp] theorem State.setScript_cpu (l : List ScriptLine) : (s.setScript l).cpu = s.cpu := rfl
@[simp] theorem State.setScript_callbackRegistered (l : List ScriptLine) : (s.setScript l).callbackRegistered = s.callbackRegistered := rfl
@[simp] theorem State.setScript_bus (l : List ScriptLine) : (s.setScript l).bus = s.bus := rfl
@[simp] theorem State.setScript_trace (l : List ScriptLine) : (s.setScript l).trace = s.trace := rfl
@[simp] theorem State.setScript_refused (l : List ScriptLine) : (s.setScript l).refused = s.refused := rfl
@[simp] theorem State.setScript_alloc (l : List ScriptLine) : (s.setScript l).alloc = s.alloc := rfl
@[simp] theorem State.setScript_script (l : List ScriptLine) : (s.setScript l).script = l := rfl
@[simp] theorem State.setScript_result (l : List ScriptLine) : (s.setScript l).result = s.result := rfl
@[simp] theorem State.setScript_memRead (l : List ScriptLine) (w : Word) : (s.setScript l).memRead w = s.memRead w := rfl

/-! ### emit -/

@[simp] theorem State.emit_stack (e : Event) : (s.emit e).stack = s.stack := rfl
@[simp] theorem State.emit_cpu (e : Event) : (s.emit e).cpu = s.cpu := rfl
@[simp] theorem State.emit_callbackRegistered (e : Event) : (s.emit e).callbackRegistered = s.callbackRegistered := rfl
@[simp] theorem State.emit_bus (e : Event) : (s.emit e).bus = s.bus := rfl
@[simp] theorem State.emit_trace (e : Event) : (s.emit e).trace = s.trace ++ [e] := rfl
@[simp] theorem State.emit_refused (e : Event) : (s.emit e).refused = s.refused := rfl
@[simp] theorem State.emit_alloc (e : Event) : (s.emit e).alloc = s.alloc := rfl
@[simp] theorem State.emit_script (e : Event) : (s.emit e).script = s.script := rfl
@[simp] theorem State.emit_result (e : Event) : (s.emit e).result = s.result := rfl
@[simp] theorem State.emit_memRead (e : Event) (w : Word) : (s.emit e).memRead w = s.memRead w := rfl

/-! ### answer -/

@[simp] theorem State.answer_stack (r : Result) : (s.answer r).stack = s.stack := rfl
@[simp] theorem State.answer_cpu (r : Result) : (s.answer r).cpu = s.cpu := rfl
@[simp] theorem State.answer_callbackRegistered (r : Result) : (s.answer r).callbackRegistered = s.callbackRegistered := rfl
@[simp] theorem State.answer_bus (r : Result) : (s.answer r).bus = s.bus := rfl
@[simp] theorem State.answer_trace (r : Result) : (s.answer r).trace = s.trace := rfl
@[simp] theorem State.answer_refused (r : Result) : (s.answer r).refused = s.refused := rfl
@[simp] theorem State.answer_alloc (r : Result) : (s.answer r).alloc = s.alloc := rfl
@[simp] theorem State.answer_script (r : Result) : (s.answer r).script = s.script := rfl
@[simp] theorem State.answer_result (r : Result) : (s.answer r).result = some r := rfl
@[simp] theorem State.answer_memRead (r : Result) (w : Word) : (s.answer r).memRead w = s.memRead w := rfl

/-! ### ok -/

@[simp] theorem State.ok_stack (v : Value) : (s.ok v).stack = s.stack := rfl
@[simp] theorem State.ok_cpu (v : Value) : (s.ok v).cpu = s.cpu := rfl
@[simp] theorem State.ok_callbackRegistered (v : Value) : (s.ok v).callbackRegistered = s.callbackRegistered := rfl
@[simp] theorem State.ok_bus (v : Value) : (s.ok v).bus = s.bus := rfl
@[simp] theorem State.ok_trace (v : Value) : (s.ok v).trace = s.trace := rfl
@[simp] theorem State.ok_refused (v : Value) : (s.ok v).refused = s.refused := rfl
@[simp] theorem State.ok_alloc (v : Value) : (s.ok v).alloc = s.alloc := rfl
@[simp] theorem State.ok_script (v : Value) : (s.ok v).script = s.script := rfl
@[simp] theorem State.ok_result (v : Value) : (s.ok v).result = some (.ok v) := rfl
@[simp] theorem State.ok_memRead (v : Value) (w : Word) : (s.ok v).memRead w = s.memRead w := rfl

/-! ### refuse -/

@[simp] theorem State.refuse_stack (r : RefuseReason) : (s.refuse r).stack = s.stack := rfl
@[simp] theorem State.refuse_cpu (r : RefuseReason) : (s.refuse r).cpu = s.cpu := rfl
@[simp] theorem State.refuse_callbackRegistered (r : RefuseReason) : (s.refuse r).callbackRegistered = s.callbackRegistered := rfl
@[simp] theorem State.refuse_bus (r : RefuseReason) : (s.refuse r).bus = s.bus := rfl
@[simp] theorem State.refuse_trace (r : RefuseReason) : (s.refuse r).trace = s.trace := rfl
@[simp] theorem State.refuse_refused (r : RefuseReason) : (s.refuse r).refused = true := rfl
@[simp] theorem State.refuse_alloc (r : RefuseReason) : (s.refuse r).alloc = s.alloc := rfl
@[simp] theorem State.refuse_script (r : RefuseReason) : (s.refuse r).script = s.script := rfl
@[simp] theorem State.refuse_result (r : RefuseReason) : (s.refuse r).result = some (.refused r) := rfl
@[simp] theorem State.refuse_memRead (r : RefuseReason) (w : Word) : (s.refuse r).memRead w = s.memRead w := rfl

/-! ### raiseLoad -/

@[simp] theorem State.raiseLoad_stack (e : LoadError) : (s.raiseLoad e).stack = s.stack := rfl
@[simp] theorem State.raiseLoad_cpu (e : LoadError) : (s.raiseLoad e).cpu = s.cpu := rfl
@[simp] theorem State.raiseLoad_callbackRegistered (e : LoadError) : (s.raiseLoad e).callbackRegistered = s.callbackRegistered := rfl
@[simp] theorem State.raiseLoad_bus (e : LoadError) : (s.raiseLoad e).bus = s.bus := rfl
@[simp] theorem State.raiseLoad_trace (e : LoadError) : (s.raiseLoad e).trace = s.trace := rfl
@[simp] theorem State.raiseLoad_refused (e : LoadError) : (s.raiseLoad e).refused = s.refused := rfl
@[simp] theorem State.raiseLoad_alloc (e : LoadError) : (s.raiseLoad e).alloc = s.alloc := rfl
@[simp] theorem State.raiseLoad_script (e : LoadError) : (s.raiseLoad e).script = s.script := rfl
@[simp] theorem State.raiseLoad_result (e : LoadError) : (s.raiseLoad e).result = some (.loadError e) := rfl
@[simp] theorem State.raiseLoad_memRead (e : LoadError) (w : Word) : (s.raiseLoad e).memRead w = s.memRead w := rfl

/-! ### raiseMapper -/

@[simp] theorem State.raiseMapper_stack (e : MapperError) : (s.raiseMapper e).stack = s.stack := rfl
@[simp] theorem State.raiseMapper_cpu (e : MapperError) : (s.raiseMapper e).cpu = s.cpu := rfl
@[simp] theorem State.raiseMapper_callbackRegistered (e : MapperError) : (s.raiseMapper e).callbackRegistered = s.callbackRegistered := rfl
@[simp] theorem State.raiseMapper_bus (e : MapperError) : (s.raiseMapper e).bus = s.bus := rfl
@[simp] theorem State.raiseMapper_trace (e : MapperError) : (s.raiseMapper e).trace = s.trace := rfl
@[simp] theorem State.raiseMapper_refused (e : MapperError) : (s.raiseMapper e).refused = s.refused := rfl
@[simp] theorem State.raiseMapper_alloc (e : MapperError) : (s.raiseMapper e).alloc = s.alloc := rfl
@[simp] theorem State.raiseMapper_script (e : MapperError) : (s.raiseMapper e).script = s.script := rfl
@[simp] theorem State.raiseMapper_result (e : MapperError) : (s.raiseMapper e).result = some (.mapperError e) := rfl
@[simp] theorem State.raiseMapper_memRead (e : MapperError) (w : Word) : (s.raiseMapper e).memRead w = s.memRead w := rfl

/-! ### degradedRead -/

@[simp] theorem State.degradedRead_stack (k : LogKind) : (s.degradedRead k).stack = s.stack := rfl
@[simp] theorem State.degradedRead_cpu (k : LogKind) : (s.degradedRead k).cpu = s.cpu := rfl
@[simp] theorem State.degradedRead_callbackRegistered (k : LogKind) : (s.degradedRead k).callbackRegistered = s.callbackRegistered := rfl
@[simp] theorem State.degradedRead_bus (k : LogKind) : (s.degradedRead k).bus = s.bus := rfl
@[simp] theorem State.degradedRead_trace (k : LogKind) : (s.degradedRead k).trace = s.trace ++ [.log k] := rfl
@[simp] theorem State.degradedRead_refused (k : LogKind) : (s.degradedRead k).refused = s.refused := rfl
@[simp] theorem State.degradedRead_alloc (k : LogKind) : (s.degradedRead k).alloc = s.alloc := rfl
@[simp] theorem State.degradedRead_script (k : LogKind) : (s.degradedRead k).script = s.script := rfl
@[simp] theorem State.degradedRead_result (k : LogKind) : (s.degradedRead k).result = some (.ok (.byte 0x00)) := rfl
@[simp] theorem State.degradedRead_memRead (k : LogKind) (w : Word) : (s.degradedRead k).memRead w = s.memRead w := rfl

/-! ### resolved -/

@[simp] theorem State.resolved_stack (extra : Bool) : (s.resolved extra).stack = s.stack := rfl
@[simp] theorem State.resolved_cpu (extra : Bool) : (s.resolved extra).cpu = s.cpu := rfl
@[simp] theorem State.resolved_callbackRegistered (extra : Bool) : (s.resolved extra).callbackRegistered = s.callbackRegistered := rfl
@[simp] theorem State.resolved_bus (extra : Bool) : (s.resolved extra).bus = s.bus := rfl
@[simp] theorem State.resolved_trace (extra : Bool) : (s.resolved extra).trace = s.trace := rfl
@[simp] theorem State.resolved_refused (extra : Bool) : (s.resolved extra).refused = s.refused := rfl
@[simp] theorem State.resolved_alloc (extra : Bool) : (s.resolved extra).alloc = s.alloc := rfl
@[simp] theorem State.resolved_script (extra : Bool) : (s.resolved extra).script = s.script := rfl
@[simp] theorem State.resolved_result (extra : Bool) : (s.resolved extra).result = some (.ok (.bool extra)) := rfl
@[simp] theorem State.resolved_memRead (extra : Bool) (w : Word) : (s.resolved extra).memRead w = s.memRead w := rfl

/-! ### enterMapped -/

@[simp] theorem State.enterMapped_stack (c : Cartridge) (m : Mapper) : (s.enterMapped c m).stack = .mapped c m := rfl
@[simp] theorem State.enterMapped_cpu (c : Cartridge) (m : Mapper) : (s.enterMapped c m).cpu = s.cpu := rfl
@[simp] theorem State.enterMapped_callbackRegistered (c : Cartridge) (m : Mapper) : (s.enterMapped c m).callbackRegistered = s.callbackRegistered := rfl
@[simp] theorem State.enterMapped_bus (c : Cartridge) (m : Mapper) : (s.enterMapped c m).bus = s.bus := rfl
@[simp] theorem State.enterMapped_trace (c : Cartridge) (m : Mapper) : (s.enterMapped c m).trace = s.trace := rfl
@[simp] theorem State.enterMapped_refused (c : Cartridge) (m : Mapper) : (s.enterMapped c m).refused = s.refused := rfl
@[simp] theorem State.enterMapped_alloc (c : Cartridge) (m : Mapper) : (s.enterMapped c m).alloc = s.alloc := rfl
@[simp] theorem State.enterMapped_script (c : Cartridge) (m : Mapper) : (s.enterMapped c m).script = s.script := rfl
@[simp] theorem State.enterMapped_result (c : Cartridge) (m : Mapper) : (s.enterMapped c m).result = some (.ok .empty) := rfl
@[simp] theorem State.enterMapped_memRead (c : Cartridge) (m : Mapper) (w : Word) : (s.enterMapped c m).memRead w = s.memRead w := rfl

end Sys2Proof.Machine
end

