-- ==== Sys2Proof/Laws/Ops.lean ====
section
/-! SUPPORT. One lemma per shared operation, saying once what it can do. -/

namespace Sys2Proof.Machine

/-! ### Operand bytes -/

/-- `hi:lo` as a number (R8). -/
theorem pair_toNat (hi lo : Byte) : (pair hi lo).toNat = hi.toNat * 256 + lo.toNat := by
  have h := BitVec.toNat_append hi lo
  have e : pair hi lo = hi ++ lo := by
    simp only [pair]
    apply BitVec.eq_of_getLsbD_eq
    intro i hi'
    simp only [BitVec.getLsbD_or, BitVec.getLsbD_shiftLeft, BitVec.getLsbD_setWidth,
      BitVec.getLsbD_append]
    by_cases h8 : i < 8
    · simp [h8, show i < 16 by omega]
    · have : lo.getLsbD i = false := BitVec.getLsbD_of_ge lo i (by omega)
      simp [h8, this, show i < 16 by omega, show i - 8 < 16 by omega]
  rw [e, h, Nat.shiftLeft_eq, ← Nat.shiftLeft_eq, ← Nat.shiftLeft_add_eq_or_of_lt lo.isLt,
    Nat.shiftLeft_eq]

/-- `Fetch8` twice (R261): the bytes at PC and PC + 1, and PC advanced by two. -/
theorem fetch16_eq (s : State) :
    fetch16 s = ((s.memRead (s.cpu.pc + 1), s.memRead s.cpu.pc), s.setPc (s.cpu.pc + 2)) := by
  have h : s.cpu.pc + 1 + 1 = s.cpu.pc + 2 := by rw [BitVec.add_assoc]; rfl
  simp only [fetch16, fetch8, State.operandByte, State.advancePc, State.setPc, h]
  rfl

/-- `Fetch8` (R261): the byte at PC, and PC advanced by one. -/
theorem fetch8_eq (s : State) : fetch8 s = (s.memRead s.cpu.pc, s.setPc (s.cpu.pc + 1)) := rfl

/-! ### Reads of the physical arrays -/

/-- A read inside the array returns its byte and changes nothing else. -/
theorem State.readArray_of_lt (s : State) (bytes : List Byte) (i : Nat) (k : LogKind)
    (h : i < bytes.length) : s.readArray bytes i k = s.ok (.byte bytes[i]) := by
  simp only [State.readArray, List.getElem?_eq_getElem h]

/-- A read past the array is degraded (R304). -/
theorem State.readArray_of_le (s : State) (bytes : List Byte) (i : Nat) (k : LogKind)
    (h : bytes.length ≤ i) : s.readArray bytes i k = s.degradedRead k := by
  simp only [State.readArray, List.getElem?_eq_none h]

/-- Everything a read of a physical array can do. -/
theorem State.readArray_cases (s : State) (bytes : List Byte) (i : Nat) (k : LogKind) :
    (∃ h : i < bytes.length, s.readArray bytes i k = s.ok (.byte bytes[i])) ∨
      (bytes.length ≤ i ∧ s.readArray bytes i k = s.degradedRead k) := by
  by_cases h : i < bytes.length
  · exact .inl ⟨h, s.readArray_of_lt bytes i k h⟩
  · exact .inr ⟨by omega, s.readArray_of_le bytes i k (by omega)⟩

/-! ### The phase checks -/

/-- A mapper port in phase Mapped is the variant's own rule. -/
theorem mapperPort_mapped {s : State} {c : Cartridge} {m : Mapper} (h : s.stack = .mapped c m)
    (port : Cartridge → Mapper → State → State) : mapperPort port s = port c m s := by
  simp only [mapperPort, h]

/-- A mapper port in any other phase is refused (R178). -/
theorem mapperPort_unmapped {s : State} (h : s.phase ≠ .mapped)
    (port : Cartridge → Mapper → State → State) : mapperPort port s = s.refuse .noMapper := by
  cases hs : s.stack <;> simp_all [mapperPort, State.phase]

/-- A construction in phase Loaded is its own rule. -/
theorem construct_loaded {s : State} {c : Cartridge} (h : s.stack = .loaded c)
    (build : Cartridge → State → State) : construct build s = build c s := by
  simp only [construct, h]

/-- Everything a construction step can do (R161). -/
theorem buildMapper_cases (c : Cartridge) (s : State) :
    (∃ m, buildMapper c s = s.enterMapped c m) ∨ (∃ r, buildMapper c s = s.refuse r) ∨
      (∃ e, buildMapper c s = s.raiseMapper e) := by
  unfold buildMapper
  split
  · exact .inr (.inl ⟨_, rfl⟩)
  · exact .inl ⟨_, rfl⟩
  · exact .inl ⟨_, rfl⟩
  · split
    · exact .inr (.inr ⟨_, rfl⟩)
    · exact .inl ⟨_, rfl⟩
  · exact .inl ⟨_, rfl⟩

/-! ### The loader -/

/-- What a stream that parses has passed, and the one cartridge it gives (R131). -/
theorem parseImage_ok {h : AllocAnswers} {stream : List Byte} {c : Cartridge}
    (hp : parseImage h stream = .ok c) :
    c = cartridgeOf stream ∧ headerByte stream 4 ≠ 0 ∧ headerSize ≤ stream.length ∧
      headerSize + prgBodySize stream + chrBodySize stream ≤ stream.length := by
  unfold parseImage at hp
  split at hp; · cases hp
  split at hp; · cases hp
  split at hp; · cases hp
  split at hp; · cases hp
  split at hp; · cases hp
  split at hp
  · exact ⟨(Except.ok.inj hp).symm, ‹_›, by omega, by omega⟩
  split at hp; · cases hp
  split at hp; · cases hp
  exact ⟨(Except.ok.inj hp).symm, ‹_›, by omega, by omega⟩

/-! ### The mirroring hook -/

/-- The hook appends one event when a callback is registered, and nothing otherwise (R196). -/
theorem State.mirroringHook_eq (s : State) (m : OneScreen) :
    s.mirroringHook m =
      { s with trace := s.trace ++
          (if s.callbackRegistered then [.mirroring (oneScreenMirroring m)] else []) } := by
  obtain ⟨stack, cpu, registered, bus, trace, refused, alloc, script, result⟩ := s
  cases registered <;> simp [State.mirroringHook, State.emit]

end Sys2Proof.Machine
end

