-- ==== Sys2Proof/Laws/Exec.lean ====
section
/-! SUPPORT. The inversion of exec: everything a transaction can do, said once, with the condition under which
each case arises. Statements about every transaction are case splits on it. -/

namespace Sys2Proof.Machine

/-- What the next state of a transaction can be. -/
inductive Effect : Instr → State → State → Prop where
  /-- A resolver: registers other than A, X and Y, and its extra-cycle Bool. -/
  | resolve {i : Instr} {s : State} (c : CpuRegisters) (extra : Bool)
      (hi : i ∈ [Instr.imp, .imm, .zp0, .zpx, .zpy, .abs, .abx, .aby, .ind, .izx, .izy, .rel])
      (ha : c.a = s.cpu.a) (hx : c.x = s.cpu.x) (hy : c.y = s.cpu.y) :
      Effect i s ((s.setCpu c).resolved extra)
  | busRead {s : State} (a : Word) : Effect (.busRd a) s (s.ok (.byte (s.memRead a)))
  | busWrite {s : State} (a : Word) (v : Byte) : Effect (.busWr a v) s ((s.memWrite a v).ok .empty)
  | callback {s : State} (d : Byte) : Effect (.cbSet d) s ((s.setCallback (d.getLsbD 0)).ok .empty)
  | loadFails {s : State} {stream : List Byte} (e : LoadError) (hs : s.stack = .empty)
      (hp : parseImage s.alloc stream = .error e) : Effect (.load stream) s (s.raiseLoad e)
  | loads {s : State} {stream : List Byte} (c : Cartridge) (hs : s.stack = .empty)
      (hp : parseImage s.alloc stream = .ok c) :
      Effect (.load stream) s ((s.setStack (.loaded c)).ok .empty)
  | loadRefused {s : State} (stream : List Byte) (hs : s.phase ≠ .empty) :
      Effect (.load stream) s (s.refuse .loadNotEmpty)
  | constructRefused {i : Instr} {s : State} (r : RefuseReason) (hi : i = .mapNew ∨ i = .mapNewNull)
      (hs : s.phase ≠ .loaded) : Effect i s (s.refuse r)
  | unsupported {s : State} (c : Cartridge) (hs : s.stack = .loaded c)
      (hn : selectVariant c.mapperNumber = none) : Effect .mapNew s (s.refuse .unsupportedMapper)
  | noGraphics {s : State} (c : Cartridge) (e : MapperError) (hs : s.stack = .loaded c) :
      Effect .mapNew s (s.raiseMapper e)
  | buildsNull {s : State} (c : Cartridge) (hs : s.stack = .loaded c) :
      Effect .mapNewNull s (s.enterMapped c .null)
  | buildsNrom {s : State} (c : Cartridge) (hs : s.stack = .loaded c) (hn : c.mapperNumber = 0#8) :
      Effect .mapNew s (s.enterMapped c .nrom)
  | buildsAxrom {s : State} (c : Cartridge) (m : Mapper) (hs : s.stack = .loaded c)
      (hn : c.mapperNumber = 7#8) (hm : constructAxrom s.alloc c = .ok m) :
      Effect .mapNew s (s.enterMapped c m)
  | buildsCnrom {s : State} (c : Cartridge) (hs : s.stack = .loaded c) (hn : c.mapperNumber = 3#8) :
      Effect .mapNew s (s.enterMapped c (constructCnrom c))
  | portRefused {i : Instr} {s : State} (hs : s.phase ≠ .mapped)
      (hi : (∃ a, i = .prgRd a) ∨ (∃ a, i = .chrRd a) ∨ (∃ a d, i = .prgWr a d) ∨
        (∃ a d, i = .chrWr a d) ∨ i = .getMirr ∨ i = .hasXram ∨ i = .scanline) :
      Effect i s (s.refuse .noMapper)
  | portRead {i : Instr} {s : State} (a : Word) (b : Byte) (hi : i = .prgRd a ∨ i = .chrRd a)
      (hs : s.phase = .mapped) : Effect i s (s.ok (.byte b))
  | portDegraded {i : Instr} {s : State} (a : Word) (k : LogKind) (hi : i = .prgRd a ∨ i = .chrRd a)
      (hs : s.phase = .mapped) : Effect i s (s.degradedRead k)
  | portIgnored {i : Instr} {s : State} (a : Word) (d : Byte) (hi : i = .prgWr a d ∨ i = .chrWr a d)
      (hs : s.phase = .mapped)
      (hc : ∀ c m, s.stack = .mapped c (.cnrom m) → i = .chrWr a d) : Effect i s (s.ok .empty)
  | axromSelects {s : State} (a : Word) (d : Byte) (c : Cartridge) (m : AxromState)
      (hs : s.stack = .mapped c (.axrom m)) (ha : 0x8000 ≤ a.toNat) :
      Effect (.prgWr a d) s (((s.setStack (.mapped c (.axrom { m with
        selectedPrgBank := d.extractLsb' 0 3
        mirroringMode := oneScreenOf d }))).mirroringHook (oneScreenOf d)).ok .empty)
  | axromStores {s : State} (a : Word) (d : Byte) (c : Cartridge) (m : AxromState) (ram : List Byte)
      (hs : s.stack = .mapped c (.axrom m)) (hr : m.characterRam = some ram) :
      Effect (.chrWr a d) s ((s.setStack (.mapped c (.axrom { m with
        characterRam := some (ram.set a.toNat d) }))).ok .empty)
  | axromPast {s : State} (a : Word) (d : Byte) (c : Cartridge) (m : AxromState)
      (hs : s.stack = .mapped c (.axrom m)) :
      Effect (.chrWr a d) s ((s.emit (.log .chrRamOutOfRange)).ok .empty)
  | cnromSelects {s : State} (a : Word) (d : Byte) (c : Cartridge) (m : CnromState)
      (hs : s.stack = .mapped c (.cnrom m)) :
      Effect (.prgWr a d) s ((s.setStack (.mapped c (.cnrom { m with
        selectedChrBank := d.extractLsb' 0 2 }))).ok .empty)
  | mirroring {s : State} (m : Mirroring) (hs : s.phase = .mapped) :
      Effect .getMirr s (s.ok (.mirroring m))
  | extendedRam {s : State} (b : Bool) (hs : s.phase = .mapped) : Effect .hasXram s (s.ok (.bool b))
  | scanline {s : State} (hs : s.phase = .mapped) : Effect .scanline s (s.ok .empty)

/-- A read of a physical array, as an effect of one of the two read ports. -/
theorem readArray_effect {i : Instr} {s : State} {a : Word} (hi : i = .prgRd a ∨ i = .chrRd a)
    (hs : s.phase = .mapped) (bytes : List Byte) (n : Nat) (k : LogKind) :
    Effect i s (s.readArray bytes n k) := by
  rcases s.readArray_cases bytes n k with ⟨h, e⟩ | ⟨-, e⟩
  · exact e ▸ .portRead a _ hi hs
  · exact e ▸ .portDegraded a k hi hs

/-- A state whose stack is mapped is in phase Mapped. -/
theorem phase_mapped {s : State} {c : Cartridge} {m : Mapper} (h : s.stack = .mapped c m) :
    s.phase = .mapped := by simp only [State.phase, h]

/-- PRG_RD in phase Mapped. -/
theorem portPrgRd_effect {s : State} {c : Cartridge} {m : Mapper} (h : s.stack = .mapped c m) (a : Word) :
    Effect (.prgRd a) s (portPrgRd a c m s) := by
  have hs := phase_mapped h
  cases m with
  | null => exact .portRead a _ (.inl rfl) hs
  | nrom => exact readArray_effect (.inl rfl) hs _ _ _
  | axrom m => exact readArray_effect (.inl rfl) hs _ _ _
  | cnrom m => exact readArray_effect (.inl rfl) hs _ _ _

/-- CHR_RD in phase Mapped. -/
theorem portChrRd_effect {s : State} {c : Cartridge} {m : Mapper} (h : s.stack = .mapped c m) (a : Word) :
    Effect (.chrRd a) s (portChrRd a c m s) := by
  have hs := phase_mapped h
  cases m with
  | null => exact .portRead a _ (.inr rfl) hs
  | nrom =>
    simp only [portChrRd, nromChrRd]
    split
    · exact .portDegraded a _ (.inr rfl) hs
    · exact readArray_effect (.inr rfl) hs _ _ _
  | axrom m =>
    simp only [portChrRd, axromChrRd]
    split
    · exact .portDegraded a _ (.inr rfl) hs
    · split
      · exact .portRead a _ (.inr rfl) hs
      · exact .portDegraded a _ (.inr rfl) hs
  | cnrom m =>
    simp only [portChrRd, cnromChrRd]
    split
    · exact .portDegraded a _ (.inr rfl) hs
    · exact readArray_effect (.inr rfl) hs _ _ _

/-- PRG_WR in phase Mapped. -/
theorem portPrgWr_effect {s : State} {c : Cartridge} {m : Mapper} (h : s.stack = .mapped c m) (a : Word)
    (d : Byte) : Effect (.prgWr a d) s (portPrgWr a d c m s) := by
  have hs := phase_mapped h
  cases m with
  | null => exact .portIgnored a d (.inl rfl) hs fun c' m' e => by simp [h] at e
  | nrom => exact .portIgnored a d (.inl rfl) hs fun c' m' e => by simp [h] at e
  | axrom m =>
    simp only [portPrgWr, axromPrgWr]
    split
    · exact .axromSelects a d c m h ‹_›
    · exact .portIgnored a d (.inl rfl) hs fun c' m' e => by simp [h] at e
  | cnrom m => exact .cnromSelects a d c m h

/-- CHR_WR in phase Mapped. -/
theorem portChrWr_effect {s : State} {c : Cartridge} {m : Mapper} (h : s.stack = .mapped c m) (a : Word)
    (d : Byte) : Effect (.chrWr a d) s (portChrWr a d c m s) := by
  have hs := phase_mapped h
  cases m with
  | null => exact .portIgnored a d (.inr rfl) hs fun _ _ _ => rfl
  | nrom => exact .portIgnored a d (.inr rfl) hs fun _ _ _ => rfl
  | axrom m =>
    simp only [portChrWr, axromChrWr]
    split
    · exact .portIgnored a d (.inr rfl) hs fun _ _ _ => rfl
    · split
      · exact .axromStores a d c m _ h ‹_›
      · exact .axromPast a d c m h
  | cnrom m => exact .portIgnored a d (.inr rfl) hs fun _ _ _ => rfl

/-- A port is refused, or is the variant's own rule. -/
theorem mapperPort_effect {i : Instr} (s : State) (port : Cartridge → Mapper → State → State)
    (hi : (∃ a, i = .prgRd a) ∨ (∃ a, i = .chrRd a) ∨ (∃ a d, i = .prgWr a d) ∨
      (∃ a d, i = .chrWr a d) ∨ i = .getMirr ∨ i = .hasXram ∨ i = .scanline)
    (hp : ∀ c m, s.stack = .mapped c m → Effect i s (port c m s)) : Effect i s (mapperPort port s) := by
  by_cases h : s.phase = .mapped
  · cases hs : s.stack with
    | empty => simp [State.phase, hs] at h
    | loaded c => simp [State.phase, hs] at h
    | mapped c m => rw [mapperPort_mapped hs]; exact hp c m hs
  · rw [mapperPort_unmapped h]; exact .portRefused h hi

/-- MAP_NEW over a loaded cartridge. -/
theorem buildMapper_effect {s : State} {c : Cartridge} (h : s.stack = .loaded c) :
    Effect .mapNew s (buildMapper c s) := by
  unfold buildMapper
  by_cases h0 : c.mapperNumber = 0#8
  · simp only [selectVariant, h0, if_true]; exact .buildsNrom c h h0
  by_cases h3 : c.mapperNumber = 3#8
  · rw [show selectVariant c.mapperNumber = some .cnrom by rw [h3]; rfl]; exact .buildsCnrom c h h3
  by_cases h7 : c.mapperNumber = 7#8
  · rw [show selectVariant c.mapperNumber = some .axrom by rw [h7]; rfl]
    simp only
    cases hm : constructAxrom s.alloc c with
    | error e => exact .noGraphics c e h
    | ok m => exact .buildsAxrom c m h h7 hm
  · have hn : selectVariant c.mapperNumber = none := by simp only [selectVariant, h0, h3, h7, if_false]
    rw [hn]; exact .unsupported c h hn

/-- A construction is refused outside phase Loaded, or is its own rule. -/
theorem construct_effect {i : Instr} (s : State) (build : Cartridge → State → State)
    (hi : i = .mapNew ∨ i = .mapNewNull) (hb : ∀ c, s.stack = .loaded c → Effect i s (build c s)) :
    Effect i s (construct build s) := by
  cases hs : s.stack with
  | empty =>
    simp only [construct, hs]
    exact .constructRefused _ hi (by simp [State.phase, hs])
  | loaded c => rw [construct_loaded hs]; exact hb c hs
  | mapped c m =>
    simp only [construct, hs]
    exact .constructRefused _ hi (by simp [State.phase, hs])

/-- LOAD. -/
theorem execLoad_effect {s t : State} {stream : List Byte} (h : execLoad stream s = .next t) :
    Effect (.load stream) s t := by
  simp only [execLoad] at h
  split at h
  · split at h
    · exact (Host.Outcome.next.inj h) ▸ .loadFails _ ‹_› ‹_›
    · exact (Host.Outcome.next.inj h) ▸ .loads _ ‹_› ‹_›
  · exact (Host.Outcome.next.inj h) ▸ .loadRefused _ (by simp [State.phase, *])
  · exact (Host.Outcome.next.inj h) ▸ .loadRefused _ (by simp [State.phase, *])

/-- The inversion of exec: a transaction's next state is one of its effects. -/
theorem exec_effect {i : Instr} {s t : State} (h : exec i s = .next t) : Effect i s t := by
  cases i with
  | load stream => exact execLoad_effect h
  | busRd a => cases h; exact .busRead a
  | busWr a v => cases h; exact .busWrite a v
  | cbSet d => cases h; exact .callback d
  | prgRd a => cases h; exact mapperPort_effect s _ (.inl ⟨a, rfl⟩) fun c m hs => portPrgRd_effect hs a
  | chrRd a => cases h; exact mapperPort_effect s _ (.inr (.inl ⟨a, rfl⟩)) fun c m hs => portChrRd_effect hs a
  | prgWr a d =>
    cases h; exact mapperPort_effect s _ (.inr (.inr (.inl ⟨a, d, rfl⟩))) fun c m hs => portPrgWr_effect hs a d
  | chrWr a d =>
    cases h
    exact mapperPort_effect s _ (.inr (.inr (.inr (.inl ⟨a, d, rfl⟩)))) fun c m hs => portChrWr_effect hs a d
  | getMirr =>
    cases h
    refine mapperPort_effect s _ (by simp) fun c m hs => ?_
    cases m <;> exact .mirroring _ (phase_mapped hs)
  | hasXram => cases h; exact mapperPort_effect s _ (by simp) fun c m hs => .extendedRam _ (phase_mapped hs)
  | scanline => cases h; exact mapperPort_effect s _ (by simp) fun c m hs => .scanline (phase_mapped hs)
  | mapNew => cases h; exact construct_effect s _ (.inl rfl) fun c hs => buildMapper_effect hs
  | mapNewNull => cases h; exact construct_effect s _ (.inr rfl) fun c hs => .buildsNull c hs
  | _ => cases h; exact .resolve _ _ (by simp) rfl rfl rfl

end Sys2Proof.Machine
end

