-- ==== Sys2Proof/Laws/PerInstr.lean ====
section
/-! SUPPORT. Statements about every instruction as syntax, one lemma per constructor. -/

namespace Sys2Proof.Laws

/-- The encoder writes every instruction in the form of R113: an assigned code, and zero in every field the
code does not use. -/
def Written.Statement (i : Instr) : Prop := (encode i).wellFormed = true

theorem Written.imp : Written.Statement .imp := rfl
theorem Written.imm : Written.Statement .imm := rfl
theorem Written.zp0 : Written.Statement .zp0 := rfl
theorem Written.zpx : Written.Statement .zpx := rfl
theorem Written.zpy : Written.Statement .zpy := rfl
theorem Written.abs : Written.Statement .abs := rfl
theorem Written.abx : Written.Statement .abx := rfl
theorem Written.aby : Written.Statement .aby := rfl
theorem Written.ind : Written.Statement .ind := rfl
theorem Written.izx : Written.Statement .izx := rfl
theorem Written.izy : Written.Statement .izy := rfl
theorem Written.rel : Written.Statement .rel := rfl
theorem Written.busRd (addr : Word) : Written.Statement (.busRd addr) := rfl
theorem Written.busWr (addr : Word) (data : Byte) : Written.Statement (.busWr addr data) := rfl
theorem Written.prgRd (addr : Word) : Written.Statement (.prgRd addr) := rfl
theorem Written.chrRd (addr : Word) : Written.Statement (.chrRd addr) := rfl
theorem Written.prgWr (addr : Word) (data : Byte) : Written.Statement (.prgWr addr data) := rfl
theorem Written.chrWr (addr : Word) (data : Byte) : Written.Statement (.chrWr addr data) := rfl
theorem Written.getMirr : Written.Statement .getMirr := rfl
theorem Written.hasXram : Written.Statement .hasXram := rfl
theorem Written.scanline : Written.Statement .scanline := rfl
theorem Written.load (stream : List Byte) : Written.Statement (.load stream) := rfl
theorem Written.mapNew : Written.Statement .mapNew := rfl
theorem Written.mapNewNull : Written.Statement .mapNewNull := rfl
theorem Written.cbSet (data : Byte) : Written.Statement (.cbSet data) := rfl

end Sys2Proof.Laws
end

