-- ==== Sys2Proof/Tests/Slice0.lean ====
section
/-! SUPPORT. The model's own tests. Every expected value is one the spec states: the codes of R92 as R113
writes them, and the vectors of 95_test_vectors.md, whose names (R-13, N9, A16, ...) the comments give. Then a
witness for the hypotheses of each statement in Certificates/Slice0/Obligations.lean. -/

namespace Sys2Proof.Tests

open Sys2Proof.Machine

/-! ### WellFormed: one ill-formed transaction for each check -/

/-- R92, R94: 0x0C is no assigned code. -/
theorem test_wellFormed_refuses_code : (Transaction.mk 0x0C 0 0 []).wellFormed = false := by decide

/-- R113: ABS does not use the addr field. -/
theorem test_wellFormed_refuses_addr : (Transaction.mk 0x05 0x0200 0 []).wellFormed = false := by decide

/-- R113: BUS_RD does not use the data field. -/
theorem test_wellFormed_refuses_data : (Transaction.mk 0x10 0x0200 0xA9 []).wellFormed = false := by decide

/-- R90: the stream is used only by LOAD. -/
theorem test_wellFormed_refuses_stream : (Transaction.mk 0x11 0x0200 0xA9 [0]).wellFormed = false := by decide

/-- R113: the spec's own example, `11 0200 A9`. -/
theorem test_wellFormed_accepts : (Transaction.mk 0x11 0x0200 0xA9 []).wellFormed = true := by decide

/-! ### Decode: a written-out word for every constructor (R92, encodings as R113 writes them) -/

theorem test_decode_imp : decode ⟨0x00, 0x0000, 0x00, []⟩ = .ok .imp := by rfl
theorem test_decode_imm : decode ⟨0x01, 0x0000, 0x00, []⟩ = .ok .imm := by rfl
theorem test_decode_zp0 : decode ⟨0x02, 0x0000, 0x00, []⟩ = .ok .zp0 := by rfl
theorem test_decode_zpx : decode ⟨0x03, 0x0000, 0x00, []⟩ = .ok .zpx := by rfl
theorem test_decode_zpy : decode ⟨0x04, 0x0000, 0x00, []⟩ = .ok .zpy := by rfl
theorem test_decode_abs : decode ⟨0x05, 0x0000, 0x00, []⟩ = .ok .abs := by rfl
theorem test_decode_abx : decode ⟨0x06, 0x0000, 0x00, []⟩ = .ok .abx := by rfl
theorem test_decode_aby : decode ⟨0x07, 0x0000, 0x00, []⟩ = .ok .aby := by rfl
theorem test_decode_ind : decode ⟨0x08, 0x0000, 0x00, []⟩ = .ok .ind := by rfl
theorem test_decode_izx : decode ⟨0x09, 0x0000, 0x00, []⟩ = .ok .izx := by rfl
theorem test_decode_izy : decode ⟨0x0A, 0x0000, 0x00, []⟩ = .ok .izy := by rfl
theorem test_decode_rel : decode ⟨0x0B, 0x0000, 0x00, []⟩ = .ok .rel := by rfl
theorem test_decode_busRd : decode ⟨0x10, 0xFFFF, 0x00, []⟩ = .ok (.busRd 0xFFFF) := by rfl
theorem test_decode_busWr : decode ⟨0x11, 0x0200, 0xA9, []⟩ = .ok (.busWr 0x0200 0xA9) := by rfl
theorem test_decode_prgRd : decode ⟨0x20, 0xC005, 0x00, []⟩ = .ok (.prgRd 0xC005) := by rfl
theorem test_decode_chrRd : decode ⟨0x21, 0x1FFF, 0x00, []⟩ = .ok (.chrRd 0x1FFF) := by rfl
theorem test_decode_prgWr : decode ⟨0x22, 0x8000, 0x02, []⟩ = .ok (.prgWr 0x8000 0x02) := by rfl
theorem test_decode_chrWr : decode ⟨0x23, 0x0100, 0x5A, []⟩ = .ok (.chrWr 0x0100 0x5A) := by rfl
theorem test_decode_getMirr : decode ⟨0x24, 0x0000, 0x00, []⟩ = .ok .getMirr := by rfl
theorem test_decode_hasXram : decode ⟨0x25, 0x0000, 0x00, []⟩ = .ok .hasXram := by rfl
theorem test_decode_scanline : decode ⟨0x26, 0x0000, 0x00, []⟩ = .ok .scanline := by rfl
theorem test_decode_load : decode ⟨0x30, 0x0000, 0x00, [0x4E, 0x45]⟩ = .ok (.load [0x4E, 0x45]) := by rfl
theorem test_decode_mapNew : decode ⟨0x31, 0x0000, 0x00, []⟩ = .ok .mapNew := by rfl
theorem test_decode_mapNewNull : decode ⟨0x32, 0x0000, 0x00, []⟩ = .ok .mapNewNull := by rfl
theorem test_decode_cbSet : decode ⟨0x33, 0x0000, 0x01, []⟩ = .ok (.cbSet 0x01) := by rfl

/-- M10: the codes next to the assigned ranges are reserved. -/
theorem test_decode_reserved : ∀ code ∈ [0x0C#8, 0x12#8, 0x27#8, 0x34#8, 0xFF#8],
    decode ⟨code, 0, 0, []⟩ = .error (.reservedCode code) := by decide

/-- `11 0200 A9` as the bits of the opcode table's row: code lowest, then addr, then data. -/
theorem test_decodeTableWord : decodeTableWord 32 0xA9020011 = some (.busWr 0x0200 0xA9) ∧
    decodeTableWord 8 0x0A = some .izy ∧ decodeTableWord 8 0x27 = none := by decide

/-! ### The states the tests start from -/

/-- Session start with the registers of 95_test_vectors.md section 2.7 and every allocation granted. -/
def start : State :=
  { State.reset with
    cpu := { pc := 0x0200, a := 0, x := 0, y := 0, absoluteAddress := 0xAAAA, relativeOffset := 0xBBBB,
             fetchedOperand := 0xCC }
    alloc := { prg := true, chr := true, chrRam := true } }

/-- `start` with the bus bytes a vector lists. -/
def withBus (cells : List (Nat × Byte)) : State :=
  { start with bus := cells.foldl (fun m c => Memory.write m c.1 c.2) [] }

/-- `start` with the index registers of a vector and the bus bytes it lists. -/
def withIndex (x y : Byte) (cells : List (Nat × Byte)) : State :=
  { withBus cells with cpu := { start.cpu with x := x, y := y } }

/-- A small cartridge: four PRG bytes and four CHR bytes. The bank counts and mapper number are given. -/
def cart (banks number : Byte) : Cartridge :=
  { prg := [0x10, 0x11, 0x12, 0x13], chr := [0xF0, 0xF1, 0xF2, 0xF3], prgBankCount := banks, chrBankCount := 1
    mapperNumber := number, nameTableMirroring := .vertical, hasExtendedRAM := false
    tvFlags9 := 0, tvFlags10 := 0 }

/-- `cart` without CHR ROM. -/
def bareCart (number : Byte) : Cartridge := { cart 1 number with chr := [], chrBankCount := 0 }

/-- An active NROM over `cart`. -/
def nrom : State := { start with stack := .mapped (cart 1 0) .nrom }

/-- The AxROM registers of A1: bank 5, lower screen. -/
def axromRegs (ram : Option (List Byte)) : AxromState :=
  { selectedPrgBank := 5, characterRam := ram, mirroringMode := .lower }

/-- An active AxROM with character RAM and a registered callback. -/
def axrom (ram : Option (List Byte)) : State :=
  { start with stack := .mapped (bareCart 7) (.axrom (axromRegs ram)), callbackRegistered := true }

/-- An active CNROM with the given CHR bank. -/
def cnrom (bank : BitVec 2) (single : Bool) : State :=
  { start with stack := .mapped (cart 1 3) (.cnrom { selectedChrBank := bank, singleBank := single }) }

/-- An active Null variant over a cartridge of mapper 1. -/
def nullMapped : State := { start with stack := .mapped (cart 1 1) .null }

/-- The state after a transaction, if it answers one. -/
def next? (i : Instr) (s : State) : Option State :=
  match exec i s with
  | .next t => some t
  | _ => none

/-- What a resolver's vector lists: result, PC, absoluteAddress, relativeOffset, fetchedOperand. -/
def outputs (i : Instr) (s : State) : Option (Option Result × Word × Word × Word × Byte) :=
  (next? i s).map fun t =>
    (t.result, t.cpu.pc, t.cpu.absoluteAddress, t.cpu.relativeOffset, t.cpu.fetchedOperand)

/-- What a port's vector lists: result and trace. -/
def answers (i : Instr) (s : State) : Option (Option Result × List Event) :=
  (next? i s).map fun t => (t.result, t.trace)

/-! ### The resolvers -/

/-- R-1. -/
theorem test_imp : outputs .imp { start with cpu := { start.cpu with a := 0x42 } } =
    some (some (.ok (.bool false)), 0x0200, 0xAAAA, 0xBBBB, 0x42) := by decide

/-- R-3: PC wraps. -/
theorem test_imm_wraps : outputs .imm { start with cpu := { start.cpu with pc := 0xFFFF } } =
    some (some (.ok (.bool false)), 0x0000, 0xFFFF, 0xBBBB, 0xCC) := by decide

/-- R-5. -/
theorem test_zp0 : outputs .zp0 (withBus [(0x0200, 0xFF)]) =
    some (some (.ok (.bool false)), 0x0201, 0x00FF, 0xBBBB, 0xCC) := by decide

/-- R-7: the sum stays in page zero. -/
theorem test_zpx_wraps : outputs .zpx (withIndex 0xFF 0 [(0x0200, 0x80)]) =
    some (some (.ok (.bool false)), 0x0201, 0x007F, 0xBBBB, 0xCC) := by decide

/-- R-9. -/
theorem test_zpy_wraps : outputs .zpy (withIndex 0 0x03 [(0x0200, 0xFE)]) =
    some (some (.ok (.bool false)), 0x0201, 0x0001, 0xBBBB, 0xCC) := by decide

/-- R-12: the second operand byte is read at address 0. -/
theorem test_abs_wraps :
    outputs .abs { withBus [(0xFFFF, 0x34), (0x0000, 0x12)] with cpu := { start.cpu with pc := 0xFFFF } } =
    some (some (.ok (.bool false)), 0x0001, 0x1234, 0xBBBB, 0xCC) := by decide

/-- R-13: page cross. -/
theorem test_abx_crosses : outputs .abx (withIndex 0x01 0 [(0x0200, 0xFF), (0x0201, 0x12)]) =
    some (some (.ok (.bool true)), 0x0202, 0x1300, 0xBBBB, 0xCC) := by decide

/-- R-15: page cross at the top of memory. -/
theorem test_abx_wraps : outputs .abx (withIndex 0x01 0 [(0x0200, 0xFF), (0x0201, 0xFF)]) =
    some (some (.ok (.bool true)), 0x0202, 0x0000, 0xBBBB, 0xCC) := by decide

/-- R-18. -/
theorem test_aby_crosses : outputs .aby (withIndex 0 0x01 [(0x0200, 0xFF), (0x0201, 0x00)]) =
    some (some (.ok (.bool true)), 0x0202, 0x0100, 0xBBBB, 0xCC) := by decide

/-- R-19: no page cross. -/
theorem test_aby_stays : outputs .aby (withIndex 0 0x7F [(0x0200, 0x00), (0x0201, 0x80)]) =
    some (some (.ok (.bool false)), 0x0202, 0x807F, 0xBBBB, 0xCC) := by decide

/-- R-21: the page-wrap bug. -/
theorem test_ind_page_wrap : outputs .ind
    (withBus [(0x0200, 0xFF), (0x0201, 0x10), (0x10FF, 0x34), (0x1000, 0x12), (0x1100, 0x56)]) =
    some (some (.ok (.bool false)), 0x0202, 0x1234, 0xBBBB, 0xCC) := by decide

/-- R-22: no bug at 0xFE. -/
theorem test_ind_plain : outputs .ind
    (withBus [(0x0200, 0xFE), (0x0201, 0x10), (0x10FE, 0x78), (0x10FF, 0x56)]) =
    some (some (.ok (.bool false)), 0x0202, 0x5678, 0xBBBB, 0xCC) := by decide

/-- R-26: the pointer's high byte is read at 0x0000 (D25). -/
theorem test_izx_wraps : outputs .izx
    (withIndex 0x0F 0 [(0x0200, 0xF0), (0x00FF, 0x11), (0x0000, 0x22), (0x0100, 0x33)]) =
    some (some (.ok (.bool false)), 0x0201, 0x2211, 0xBBBB, 0xCC) := by decide

/-- R-25. -/
theorem test_izx : outputs .izx (withIndex 0x04 0 [(0x0200, 0x20), (0x0024, 0x74), (0x0025, 0x20)]) =
    some (some (.ok (.bool false)), 0x0201, 0x2074, 0xBBBB, 0xCC) := by decide

/-- R-30: page cross at the top of memory. -/
theorem test_izy_crosses : outputs .izy (withIndex 0 0x20 [(0x0200, 0x10), (0x0010, 0xF0), (0x0011, 0xFF)]) =
    some (some (.ok (.bool true)), 0x0201, 0x0010, 0xBBBB, 0xCC) := by decide

/-- R-32: the pointer's high byte is read at 0x0000 (D26). -/
theorem test_izy_wraps : outputs .izy
    (withBus [(0x0200, 0xFF), (0x00FF, 0x66), (0x0000, 0x77), (0x0100, 0x88)]) =
    some (some (.ok (.bool false)), 0x0201, 0x7766, 0xBBBB, 0xCC) := by decide

/-- R-33. -/
theorem test_rel_positive : outputs .rel (withBus [(0x0200, 0x7F)]) =
    some (some (.ok (.bool false)), 0x0201, 0xAAAA, 0x007F, 0xCC) := by decide

/-- R-34. -/
theorem test_rel_negative : outputs .rel (withBus [(0x0200, 0x80)]) =
    some (some (.ok (.bool false)), 0x0201, 0xAAAA, 0xFF80, 0xCC) := by decide

/-! ### The bus -/

/-- B1. -/
theorem test_busRd_zero : answers (.busRd 0xFFFF) start = some (some (.ok (.byte 0x00)), []) := by decide

/-- E4: the top byte. -/
theorem test_busRd_top : answers (.busRd 0xFFFF) (withBus [(0xFFFF, 0x04)]) =
    some (some (.ok (.byte 0x04)), []) := by decide

/-- B3. -/
theorem test_busWr : ((next? (.busWr 0x0200 0xA9) start).map (·.memRead 0x0200)) = some 0xA9 := by decide

/-- B4: writing 0x00 over a byte leaves an equal memory, none listed. -/
theorem test_busWr_zero : ((next? (.busWr 0x0200 0x00) (withBus [(0x0200, 0xA9)])).map (·.bus)) =
    some [] := by decide

/-! ### The mapper ports -/

/-- N2: one bank, mirrored: 0xC001 is the PRG byte of index 1. -/
theorem test_nrom_prgRd : answers (.prgRd 0xC001) nrom = some (some (.ok (.byte 0x11)), []) := by decide

/-- A20: a bank past the image reads 0 and logs. -/
theorem test_axrom_prgRd_past : answers (.prgRd 0x0000) (axrom none) =
    some (some (.ok (.byte 0x00)), [.log .prgOutOfRange]) := by decide

/-- N9: past CHR ROM. -/
theorem test_nrom_chrRd_past : answers (.chrRd 0x2000) nrom =
    some (some (.ok (.byte 0x00)), [.log .chrRomOutOfRange]) := by decide

/-- C12, C13: the bank is ORed into the address. -/
theorem test_cnrom_index : cnromChrIndex 1 0x2000 = 0x2000 ∧ cnromChrIndex 0 0x6000 = 0x6000 ∧
    cnromChrIndex 3 0x1FFF = 0x7FFF ∧ cnromChrIndex 2 0x0005 = 0x4005 := by decide

/-- A9: bits 0 to 2 select bank 7, bit 4 the higher screen, and the callback is invoked. -/
theorem test_axrom_prgWr :
    ((next? (.prgWr 0x8000 0xFF) (axrom none)).map fun t => (t.mapper, t.result, t.trace)) =
    some (some (.axrom { selectedPrgBank := 7, characterRam := none, mirroringMode := .higher }),
      some (.ok .empty), [.mirroring .oneScreenHigher]) := by decide

/-- C10: any address, bits 2 to 7 ignored. -/
theorem test_cnrom_prgWr : ((next? (.prgWr 0x0000 0xFE) (cnrom 1 true)).map (·.mapper)) =
    some (some (.cnrom { selectedChrBank := 2, singleBank := true })) := by decide

/-- A16: out of range: nothing stored, one log. -/
theorem test_axrom_chrWr_past :
    ((next? (.chrWr 0x2000 0x11) (axrom (some [0x01]))).map fun t => (t.mapper, t.trace)) =
    some (some (.axrom (axromRegs (some [0x01]))), [.log .chrRamOutOfRange]) := by decide

/-- A23: a write without character RAM is ignored, with no log. -/
theorem test_axrom_chrWr_absent : answers (.chrWr 0x0000 0x12) (axrom none) =
    some (some (.ok .empty), []) := by decide

/-- N12: NROM forwards to the cartridge. -/
theorem test_nrom_getMirr : answers .getMirr nrom = some (some (.ok (.mirroring .vertical)), []) := by decide

/-- A5: AxROM answers its own mode. -/
theorem test_axrom_getMirr : answers .getMirr (axrom none) =
    some (some (.ok (.mirroring .oneScreenLower)), []) := by decide

/-- N13. -/
theorem test_hasXram : answers .hasXram nrom = some (some (.ok (.bool false)), []) := by decide

/-- M8: a port is refused while no mapper is active. -/
theorem test_hasXram_refused :
    ((next? .hasXram start).map fun t => (t.result, t.refused)) =
    some (some (.refused .noMapper), true) := by decide

/-- N14. -/
theorem test_scanline : answers .scanline nrom = some (some (.ok .empty), []) := by decide

/-! ### The loader, construction and the callback -/

/-- A 16-byte header with bytes 4 to 7 given (95_test_vectors.md section 0). -/
def header (h4 h5 h6 h7 : Byte) : List Byte :=
  [0x4E, 0x45, 0x53, 0x1A, h4, h5, h6, h7, 0, 0, 0, 0, 0, 0, 0, 0]

/-- L4: the trainer check stands before the bank check. -/
theorem test_load_trainer : answers (.load (header 0 0 4 0)) start =
    some (some (.loadError .trainerUnsupported), []) := by decide

/-- L9: any 16384 bytes after a header with one PRG bank and no CHR load. -/
theorem test_load_ok (body : List Byte) (h : body.length = 16384) :
    exec (.load (header 1 0 0 0 ++ body)) start = .next { start with
      stack := .loaded { prg := body, chr := [], prgBankCount := 1, chrBankCount := 0, mapperNumber := 0,
                         nameTableMirroring := .horizontal, hasExtendedRAM := false,
                         tvFlags9 := 0, tvFlags10 := 0 }
      result := some (.ok .empty) } := by
  have hP : prgBodySize (header 1 0 0 0 ++ body) = 16384 := Nat.one_mul _
  have hC : chrBodySize (header 1 0 0 0 ++ body) = 0 := Nat.zero_mul _
  have hd : (header 1 0 0 0 ++ body).drop headerSize = body := rfl
  have h4 : headerByte (header 1 0 0 0 ++ body) 4 = 1 := rfl
  have h5 : headerByte (header 1 0 0 0 ++ body) 5 = 0 := rfl
  have h6 : headerByte (header 1 0 0 0 ++ body) 6 = 0 := rfl
  have h7 : headerByte (header 1 0 0 0 ++ body) 7 = 0 := rfl
  have hl : (header 1 0 0 0 ++ body).length = 16400 := by rw [List.length_append, h]; rfl
  have hc : cartridgeOf (header 1 0 0 0 ++ body) =
      { prg := body, chr := [], prgBankCount := 1, chrBankCount := 0, mapperNumber := 0,
        nameTableMirroring := .horizontal, hasExtendedRAM := false, tvFlags9 := 0, tvFlags10 := 0 } := by
    unfold cartridgeOf
    rw [hP, hC, hd, List.take_of_length_le (Nat.le_of_eq h), List.take_zero, h4, h5, h6, h7]
    rfl
  have hk : parseImage start.alloc (header 1 0 0 0 ++ body) = .ok (cartridgeOf (header 1 0 0 0 ++ body)) := by
    unfold parseImage
    rw [hl, hP, hC, h4, h6, if_neg (by decide), if_neg (by decide), if_neg (by decide), if_neg (by decide),
      if_neg (by decide), if_pos rfl]
  have he : exec (.load (header 1 0 0 0 ++ body)) start = .next (match
      parseImage start.alloc (header 1 0 0 0 ++ body) with
      | .error e => start.raiseLoad e
      | .ok c => (start.setStack (.loaded c)).ok .empty) := rfl
  rw [he, hk, hc]
  rfl

/-- E1, L12, L14: the fields of header bytes 6 and 7. -/
theorem test_load_flags : mapperNumberOf 0x70 0x4F = 0x47 ∧ mapperNumberOf 0x31 0x00 = 0x03 ∧
    mapperNumberOf 0xF0 0xF0 = 0xFF ∧ mapperNumberOf 0x0F 0x0F = 0x00 ∧
    mirroringOf 0x09 = .fourScreen ∧ mirroringOf 0x01 = .vertical ∧ mirroringOf 0x02 = .horizontal := by decide

/-- M5: mapper 1 is refused. -/
theorem test_mapNew_unsupported :
    ((next? .mapNew { start with stack := .loaded (cart 1 1) }).map fun t => (t.phase, t.result, t.refused)) =
    some (.loaded, some (.refused .unsupportedMapper), true) := by decide

/-- A24: no CHR ROM and no memory for character RAM. -/
theorem test_mapNew_noGraphics :
    ((next? .mapNew { start with
      stack := .loaded (bareCart 7), alloc := { prg := true, chr := true, chrRam := false } }).map fun t =>
        (t.phase, t.result, t.refused)) =
    some (.loaded, some (.mapperError .noGraphicsSource), false) := by decide

/-- M6: MAP_NEW_NULL over mapper 1. -/
theorem test_mapNewNull :
    ((next? .mapNewNull { start with stack := .loaded (cart 1 1) }).map (·.mapper)) = some (some .null) := by
  decide

/-- M2. -/
theorem test_mapNewNull_refused : answers .mapNewNull start = some (some (.refused .noCartridge), []) := by
  decide

/-- R106: bit 0 registers or removes; the other bits are ignored. -/
theorem test_cbSet : ((next? (.cbSet 0xFE) (axrom none)).map (·.callbackRegistered)) = some false ∧
    ((next? (.cbSet 0x01) start).map (·.callbackRegistered)) = some true := by decide

/-- The codes of R105, R301, R302 and R303. -/
theorem test_numeric_codes : Mirroring.oneScreenHigher.code = 4 ∧ Mirroring.fourScreen.code = 2 ∧
    LoadError.allocationFailure.code = 6 ∧ LoadError.truncatedChr.code = 4 ∧
    MapperError.noGraphicsSource.code = 1 ∧ RefuseReason.noMapper.code = 6 ∧
    RefuseReason.loadNotEmpty.code = 2 := by decide

/-! ### step -/

/-- P3, lines 16 and 19: `.reg PC=$0203` sets PC and no other register. -/
theorem test_step_reg : (match step { start with script := [.reg { pc := some 0x0203 }] } with
    | .next t => some (t.cpu, t.script, t.result)
    | _ => none) = some ({ start.cpu with pc := 0x0203 }, [], none) := by decide

/-- A word placed by withFetchWord is what the next step runs: `11 0200 A9`. -/
theorem test_step_withFetchWord : (match step (start.withFetchWord 32 0xA9020011) with
    | .next t => some (t.memRead 0x0200, t.script)
    | _ => none) = some (0xA9, []) := by decide

/-! ### Witnesses: for each statement with hypotheses, a state and operands that meet them -/

/-- A cartridge of one 16 KiB PRG bank and no CHR ROM, mapper 7. -/
def fullCart : Cartridge := { bareCart 7 with prg := List.replicate 0x4000 0x5A }

/-- An active AxROM over `fullCart`, with its 8192 bytes of character RAM. -/
def full : State :=
  { start with stack := .mapped fullCart (.axrom (axromRegs (some (List.replicate 8192 0x00)))) }

theorem witness_StepKeepsTheInvariant :
    ({ full with script := [.transaction ⟨0x22, 0x8000, 0x02, []⟩] } : State).Inv ∧
    ∃ t, step { full with script := [.transaction ⟨0x22, 0x8000, 0x02, []⟩] } = .next t :=
  ⟨⟨Memory.nil_wf, ⟨by decide, List.length_replicate, rfl, .inr (.inl rfl)⟩, rfl, rfl, List.length_replicate⟩,
    _, rfl⟩

theorem witness_EncodeOfDecodeIsTheTransaction :
    (Transaction.mk 0x30 0 0 [0x4E, 0x45]).wellFormed = true ∧
    (Transaction.mk 0x22 0xFFFF 0xFF []).wellFormed = true := by decide

/-- An unused field of each kind, with two different values. -/
theorem witness_UnusedOperandsAreIgnored :
    ((0x05#8).toNat ∉ [0x10, 0x11, 0x20, 0x21, 0x22, 0x23] ∧ 0x0000#16 ≠ 0xFFFF#16) ∧
    ((0x20#8).toNat ∉ [0x11, 0x22, 0x23, 0x33] ∧ 0x00#8 ≠ 0xFF#8) ∧
    ((0x33#8).toNat ≠ 0x30 ∧ ([] : List Byte) ≠ [0x4E]) := by decide

theorem witness_StepRunsTheDecodedTransaction :
    ({ start with script := [.transaction ⟨0x22, 0x8000, 0x02, []⟩, .reg {}] } : State).script =
      .transaction ⟨0x22, 0x8000, 0x02, []⟩ :: [.reg {}] ∧
    decode ⟨0x22, 0x8000, 0x02, []⟩ = .ok (.prgWr 0x8000 0x02) := ⟨rfl, rfl⟩

/-- Both ends of each of the five ranges. -/
theorem witness_ReservedCodesAreRefused :
    (∀ c ∈ [0x0C#8, 0x0F#8], 0x0C ≤ c.toNat ∧ c.toNat ≤ 0x0F) ∧
    (∀ c ∈ [0x12#8, 0x1F#8], 0x12 ≤ c.toNat ∧ c.toNat ≤ 0x1F) ∧
    (∀ c ∈ [0x27#8, 0x2F#8], 0x27 ≤ c.toNat ∧ c.toNat ≤ 0x2F) ∧
    (∀ c ∈ [0x34#8, 0x3F#8], 0x34 ≤ c.toNat ∧ c.toNat ≤ 0x3F) ∧
    (∀ c ∈ [0x40#8, 0xFF#8], 0x40 ≤ c.toNat ∧ c.toNat ≤ 0xFF) ∧
    ({ start with script := [.transaction ⟨0x0C, 0, 0, []⟩] } : State).script =
      .transaction ⟨0x0C, 0, 0, []⟩ :: [] := by decide

theorem witness_RegLinesAndTheEndOfAScript :
    ({ start with script := [.reg { pc := some 0x0203 }] } : State).script =
      .reg { pc := some 0x0203 } :: [] ∧ start.script = [] := ⟨rfl, rfl⟩

theorem witness_BusWriteStoresOneByte : Memory.wf (withBus [(0x0200, 0xA9), (0x0100, 0x01)]).bus := by decide

theorem witness_PastTheBusReadsZeroAndIgnoresWrites : 65536 ≤ (65536 : Nat) := Nat.le_refl _

/-- BUS_WR to address 0, a write to the next address and a read between, then the read back. -/
theorem witness_BusRoundTrip : Memory.wf start.bus ∧
    (∀ i ∈ [Instr.busWr 0x0001 0x02, .busRd 0x0000], ∀ d, i ≠ .busWr 0x0000 d) ∧
    ∃ t u, exec (.busWr 0x0000 0x01) start = .next t ∧ Runs [.busWr 0x0001 0x02, .busRd 0x0000] t u :=
  ⟨Memory.nil_wf, by simp, _, _, rfl, _, rfl, _, rfl, rfl⟩

theorem witness_ZeroPageModesStayInPageZero :
    ∀ p ∈ [(Instr.zp0, 0x00#8), (.zpx, 0xFF#8), (.zpy, 0x80#8)],
      p ∈ [(Instr.zp0, 0x00#8), (.zpx, (withIndex 0xFF 0x80 []).cpu.x), (.zpy, (withIndex 0xFF 0x80 []).cpu.y)] := by
  decide

theorem witness_AbsoluteIndexedAddsAndReportsThePageCross :
    ∀ p ∈ [(Instr.abx, 0xFF#8), (.aby, 0x80#8)],
      p ∈ [(Instr.abx, (withIndex 0xFF 0x80 []).cpu.x), (.aby, (withIndex 0xFF 0x80 []).cpu.y)] := by decide

/-- The pointer of R-21, which wraps, and that of R-22, which does not. -/
theorem witness_IndirectReproducesThePageWrapBug :
    (0xFF#8 = (withBus [(0x0200, 0xFF), (0x0201, 0x10)]).memRead 0x0200 ∧
      0x10#8 = (withBus [(0x0200, 0xFF), (0x0201, 0x10)]).memRead 0x0201) ∧
    0xFE#8 = (withBus [(0x0200, 0xFE), (0x0201, 0x10)]).memRead 0x0200 := by decide

theorem witness_IndirectXReadsAPointerInPageZero :
    0xF0#8 = (withIndex 0x0F 0 [(0x0200, 0xF0)]).memRead (withIndex 0x0F 0 [(0x0200, 0xF0)]).cpu.pc := by decide

theorem witness_IndirectYIndexesThePointerItReads :
    0xFF#8 = (withBus [(0x0200, 0xFF), (0x00FF, 0x66), (0x0000, 0x77)]).memRead 0x0200 ∧
    0x66#8 = (withBus [(0x0200, 0xFF), (0x00FF, 0x66), (0x0000, 0x77)]).memRead
      (BitVec.ofNat 16 (0xFF#8).toNat) ∧
    0x77#8 = (withBus [(0x0200, 0xFF), (0x00FF, 0x66), (0x0000, 0x77)]).memRead
      (BitVec.ofNat 16 (((0xFF#8).toNat + 1) % 256)) := by decide

theorem witness_ResolversWritePcAndOneOutput :
    Instr.imp ∈ [Instr.imp, .imm, .zp0, .zpx, .zpy, .abs, .abx, .aby, .ind, .izx, .izy, .rel] ∧
    Instr.rel ∈ [Instr.imp, .imm, .zp0, .zpx, .zpy, .abs, .abx, .aby, .ind, .izx, .izy, .rel] := by decide

/-- ABS at 0x0200, whose operand is 34 12. -/
def absState : State := withBus [(0x0200, 0x34), (0x0201, 0x12)]

/-- A bus that differs from that of `absState` at 0x0202, the byte after the operand, and agrees with it on
the two bytes ABS reads. -/
theorem witness_NoReadAhead : (∀ a v, Instr.abs ≠ .busWr a v) ∧
    busReads .abs absState = [0x0200, 0x0201] ∧
    (Memory.read [(0x0200, 0x34#8), (0x0201, 0x12#8), (0x0202, 0x99#8)] 0x0200 = absState.memRead 0x0200 ∧
      Memory.read [(0x0200, 0x34#8), (0x0201, 0x12#8), (0x0202, 0x99#8)] 0x0201 = absState.memRead 0x0201) ∧
    ∃ t, exec .abs absState = .next t :=
  ⟨by simp, by decide, by decide, _, rfl⟩

/-- S_AXROM's header with one PRG bank: 16384 PRG bytes, 8192 CHR bytes and 100 bytes after them. -/
theorem witness_LoadBuildsTheCartridge :
    start.stack = .empty ∧ (header 1 1 0x70 0).length = 16 ∧
    (header 1 1 0x70 0)[4]? = some 1#8 ∧ (header 1 1 0x70 0)[5]? = some 1#8 ∧
    (header 1 1 0x70 0)[6]? = some 0x70#8 ∧ (header 1 1 0x70 0)[7]? = some 0#8 ∧
    (header 1 1 0x70 0)[9]? = some 0#8 ∧ (header 1 1 0x70 0)[10]? = some 0#8 ∧
    (0x70#8).getLsbD 2 = false ∧ 1#8 ≠ 0#8 ∧
    (List.replicate 16384 0x5A#8).length = (1#8).toNat * 0x4000 ∧
    (List.replicate 8192 0xA5#8).length = (1#8).toNat * 0x2000 ∧
    start.alloc.prg = true ∧ (1#8 ≠ 0#8 → start.alloc.chr = true) :=
  ⟨rfl, rfl, rfl, rfl, rfl, rfl, rfl, rfl, rfl, by decide, List.length_replicate, List.length_replicate, rfl,
    fun _ => rfl⟩

/-- What the header of L21 says, whatever follows it. -/
theorem header_getD (tail : List Byte) :
    ((header 1 1 0 0 ++ tail).getD 4 0x00#8).toNat = 1 ∧ ((header 1 1 0 0 ++ tail).getD 5 0x00#8).toNat = 1 :=
  ⟨rfl, rfl⟩

/-- The length of a stream: its header's and its body's. -/
theorem header_length (tail : List Byte) : (header 1 1 0 0 ++ tail).length = tail.length + 16 := rfl

/-- `start` with some allocations denied. -/
def denying (prg chr : Bool) : State := { start with alloc := { prg := prg, chr := chr, chrRam := true } }

/-- One stream for each of the seven checks, each as long as its clause allows. -/
theorem witness_LoadReportsTheFirstFailingCheck :
    start.stack = .empty ∧
    ((header 1 1 4 0).take 15).length = 15 ∧
    ((header 0 1 4 0).getD 6 0x00#8).toNat / 4 % 2 = 1 ∧
    (((header 0 1 0 0).getD 6 0x00#8).toNat / 4 % 2 = 0 ∧ ((header 0 1 0 0).getD 4 0x00#8).toNat = 0) ∧
    ((header 1 1 0 0).length = 16 ∧ (denying false true).alloc.prg = false) ∧
    (∃ tail, (header 1 1 0 0 ++ tail).length = 16 + 1 * 0x4000 - 1) ∧
    ((∃ tail, (header 1 1 0 0 ++ tail).length = 16 + 1 * 0x4000) ∧ (denying true false).alloc.chr = false) ∧
    ∃ tail, (header 1 1 0 0 ++ tail).length = 16 + 1 * 0x4000 + 1 * 0x2000 - 1 :=
  ⟨rfl, rfl, rfl, ⟨rfl, rfl⟩, ⟨rfl, rfl⟩,
    ⟨_, (header_length (List.replicate 16383 0x5A)).trans (congrArg (· + 16) List.length_replicate)⟩,
    ⟨⟨_, (header_length (List.replicate 16384 0x5A)).trans (congrArg (· + 16) List.length_replicate)⟩, rfl⟩,
    _, (header_length (List.replicate 24575 0x5A)).trans (congrArg (· + 16) List.length_replicate)⟩

theorem witness_LoadIsRefusedUnlessEmpty :
    nrom.phase ≠ .empty ∧ ({ start with stack := .loaded (cart 1 0) } : State).phase ≠ .empty := by decide

theorem witness_FailedLoadLeavesNothing : ∃ t, exec (.load (header 0 0 4 0)) start = .next t ∧
    t.result = some (.loadError .trainerUnsupported) := ⟨_, rfl, rfl⟩

/-- Mapper numbers 0 and 3, and the unsupported ones beside them. -/
theorem witness_MapNewSelectsTheVariant :
    ({ start with stack := .loaded (cart 1 0) } : State).stack = .loaded (cart 1 0) ∧
    (cart 1 0).mapperNumber.toNat = 0 ∧ (cart 1 3).mapperNumber.toNat = 3 ∧
    (∀ n ∈ [1#8, 2#8, 4#8, 6#8, 8#8, 0xFF#8], (cart 1 n).mapperNumber.toNat ∉ [0, 3, 7]) := by decide

theorem witness_MapNewConstructsAxrom :
    ({ start with stack := .loaded (bareCart 7) } : State).stack = .loaded (bareCart 7) ∧
    (bareCart 7).mapperNumber.toNat = 7 ∧ (cart 1 7).mapperNumber.toNat = 7 ∧ (cart 1 7).chr ≠ [] ∧
    (bareCart 7).chr = [] ∧ start.alloc.chrRam = true ∧
    ({ start with alloc := { prg := true, chr := true, chrRam := false } } : State).alloc.chrRam = false := by
  decide

theorem witness_MapNewNullConstructsTheNullVariant :
    ({ start with stack := .loaded (cart 1 1) } : State).stack = .loaded (cart 1 1) := rfl

theorem witness_ConstructionIsRefusedOutsideLoaded : start.phase = .empty ∧ nrom.phase = .mapped := ⟨rfl, rfl⟩

theorem witness_PortsAreRefusedWithoutAMapper :
    start.phase ≠ .mapped ∧ ({ start with stack := .loaded (cart 1 0) } : State).phase ≠ .mapped ∧
    Instr.chrWr 0x2000 0x11 ∈ [Instr.prgRd 0x2000, .chrRd 0x2000, .prgWr 0x2000 0x11, .chrWr 0x2000 0x11,
      .getMirr, .hasXram, .scanline] := by decide

theorem witness_NullReadsZeroAndIgnoresWrites : nullMapped.stack = .mapped (cart 1 1) .null := rfl

/-- NROM with one bank and with two, CNROM with either value of singleBank; the two ends of the window. -/
theorem witness_FixedPrgTranslation :
    nrom.stack = .mapped (cart 1 0) .nrom ∧ true = decide ((cart 1 0).prgBankCount.toNat = 1) ∧
    false = decide ((cart 2 0).prgBankCount.toNat = 1) ∧
    (cnrom 0 true).stack = .mapped (cart 1 3) (.cnrom { selectedChrBank := 0, singleBank := true }) ∧
    0 = ((0x8000#16).toNat + 0x8000) % 65536 % 0x4000 ∧ 0x3FFF = ((0xFFFF#16).toNat + 0x8000) % 65536 % 0x4000 ∧
    0x8000 = ((0x0000#16).toNat + 0x8000) % 65536 := by decide

/-- The last CHR byte, the index after it, and a cartridge without CHR ROM. -/
theorem witness_NromChrAndWrites :
    nrom.stack = .mapped (cart 1 0) .nrom ∧ (cart 1 0).chr[(0x0003#16).toNat]? = some 0xF3#8 ∧
    (cart 1 0).chr.length ≤ (0x0004#16).toNat ∧ (cart 1 0).chr ≠ [] ∧ (bareCart 0).chr = [] := by decide

theorem witness_AxromPrgReadIsTheSelectedWindow :
    (axrom none).stack = .mapped (bareCart 7) (.axrom (axromRegs none)) := rfl

/-- The addresses on both sides of the bank register's range. -/
theorem witness_AxromPrgWriteSelectsBankAndMirroring :
    (axrom none).stack = .mapped (bareCart 7) (.axrom (axromRegs none)) ∧
    0x8000 ≤ (0x8000#16).toNat ∧ ¬ 0x8000 ≤ (0x7FFF#16).toNat := by decide

/-- The last byte of character RAM, the index after it, and no character RAM. -/
theorem witness_AxromChrReadIsTheCharacterRam :
    full.stack = .mapped fullCart (.axrom (axromRegs (some (List.replicate 8192 0x00)))) ∧
    (axromRegs (some (List.replicate 8192 0x00))).characterRam = some (List.replicate 8192 0x00) ∧
    (0x1FFF#16).toNat < 8192 ∧ (List.replicate 8192 0x00#8)[(0x1FFF#16).toNat]? = some 0x00 ∧
    8192 ≤ (0x2000#16).toNat ∧ (axromRegs none).characterRam = none :=
  ⟨rfl, rfl, by decide, by rw [List.getElem?_replicate]; decide, by decide, rfl⟩

theorem witness_AxromChrWriteStoresOneByte :
    full.stack = .mapped fullCart (.axrom (axromRegs (some (List.replicate 8192 0x00)))) ∧
    (axromRegs (some (List.replicate 8192 0x00))).characterRam = some (List.replicate 8192 0x00) ∧
    (List.replicate 8192 0x00#8).length = 8192 ∧ (0x1FFF#16).toNat < 8192 ∧ 8192 ≤ (0x2000#16).toNat ∧
    (axromRegs none).characterRam = none :=
  ⟨rfl, rfl, List.length_replicate, by decide, by decide, rfl⟩

/-- An index within CHR ROM, the first one past it, a bank whose OR lies past it, and no CHR ROM. -/
theorem witness_CnromChrReadOrsTheBank :
    (cnrom 0 true).stack = .mapped (cart 1 3) (.cnrom { selectedChrBank := 0, singleBank := true }) ∧
    3 = (0x0003#16).toNat ||| (0#2).toNat * 8192 ∧ (cart 1 3).chr[3]? = some 0xF3#8 ∧
    4 = (0x0004#16).toNat ||| (0#2).toNat * 8192 ∧ (cart 1 3).chr.length ≤ 4 ∧ (cart 1 3).chr ≠ [] ∧
    0x7FFF = (0x1FFF#16).toNat ||| (3#2).toNat * 8192 ∧ (bareCart 3).chr = [] := by decide

theorem witness_CnromWritesSelectTheChrBank :
    (cnrom 1 true).stack = .mapped (cart 1 3) (.cnrom { selectedChrBank := 1, singleBank := true }) := rfl

/-- Both writes of R199, with the callback registered and a PRG image that holds bank 5. -/
theorem witness_AxromTestableProperties :
    (axrom none).stack = .mapped (bareCart 7) (.axrom (axromRegs none)) ∧ 0x8000 ≤ (0x8000#16).toNat ∧
    (axrom none).callbackRegistered = true ∧
    (∃ t, exec (.prgWr 0x8000#16 0x05#8) (axrom none) = .next t) ∧
    (∃ t, exec (.prgWr 0x8000#16 0x10#8) (axrom none) = .next t) ∧
    (List.replicate (6 * 0x8000) 0x40#8)[5 * 0x8000]? = some 0x40 :=
  ⟨rfl, by decide, rfl, ⟨_, rfl⟩, ⟨_, rfl⟩, by rw [List.getElem?_replicate]; decide⟩

/-- Both reads and the write of R226, and a CHR image that holds bank 2. -/
theorem witness_CnromTestableProperties :
    (cnrom 1 true).stack = .mapped (cart 1 3) (.cnrom { selectedChrBank := 1, singleBank := true }) ∧
    (∃ t, exec (.prgRd 0x8000#16) (cnrom 1 true) = .next t) ∧
    (∃ t, exec (.prgRd 0xC000#16) (cnrom 1 true) = .next t) ∧
    (∃ t, exec (.prgWr 0x8000#16 0x02#8) (cnrom 1 true) = .next t) ∧
    (List.replicate (4 * 0x2000) 0xDF#8)[2 * 0x2000]? = some 0xDF :=
  ⟨rfl, ⟨_, rfl⟩, ⟨_, rfl⟩, ⟨_, rfl⟩, by rw [List.getElem?_replicate]; decide⟩

theorem witness_GetMirrForwardsExceptAxrom :
    nrom.stack = .mapped (cart 1 0) .nrom ∧ Mapper.nrom.kind ≠ .axrom ∧
    (axrom none).stack = .mapped (bareCart 7) (.axrom (axromRegs none)) := by decide

theorem witness_HasXramForwardsAndScanlineIsANoOp : nrom.stack = .mapped (cart 1 0) .nrom := rfl

/-- A transaction of each kind that moves the phase. -/
theorem witness_PhaseMovesOnlyForward :
    (∃ t, exec .mapNewNull { start with stack := .loaded (cart 1 1) } = .next t ∧
      ({ start with stack := .loaded (cart 1 1) } : State).phase ≠ t.phase) ∧
    ∃ t, exec (.load (header 1 0 0 0 ++ List.replicate 16384 0x5A#8)) start = .next t ∧
      start.phase ≠ t.phase := by
  refine ⟨⟨_, rfl, by decide⟩, _, test_load_ok _ List.length_replicate, ?_⟩
  exact fun e => nomatch e

theorem witness_CartridgeAndMapperKindAreFixed :
    (∃ t, exec (.prgWr 0x8000 0xFF) (cnrom 1 true) = .next t) ∧ (cnrom 1 true).cart = some (cart 1 3) ∧
    (cnrom 1 true).mapper = some (.cnrom { selectedChrBank := 1, singleBank := true }) :=
  ⟨⟨_, rfl⟩, rfl, rfl⟩

/-- AxROM written below 0x8000, and CNROM under a transaction that is no PRG write. -/
theorem witness_OnlyMapperWritesChangeAMapper :
    (∃ t, exec (.prgWr 0x7FFF 0xFF) (axrom none) = .next t) ∧
    (axrom none).mapper = some (.axrom (axromRegs none)) ∧
    (∀ a d, Instr.prgWr 0x7FFF 0xFF = .prgWr a d → a.toNat < 0x8000) ∧
    (∀ a d, Instr.prgWr 0x7FFF 0xFF ≠ .chrWr a d) ∧
    (∃ t, exec (.chrWr 0x0000 0xFF) (cnrom 1 true) = .next t) ∧
    (cnrom 1 true).mapper = some (.cnrom { selectedChrBank := 1, singleBank := true }) ∧
    (∀ a d, Instr.chrWr 0x0000 0xFF ≠ .prgWr a d) := by
  refine ⟨⟨_, rfl⟩, rfl, ?_, by simp, ⟨_, rfl⟩, rfl, by simp⟩
  intro a d h
  cases h
  decide

theorem witness_EachFieldHasItsOwnWriters :
    (∃ t, exec .scanline nrom = .next t) ∧
    Instr.scanline ∉ [Instr.imp, .imm, .zp0, .zpx, .zpy, .abs, .abx, .aby, .ind, .izx, .izy, .rel] ∧
    (∀ a v, Instr.scanline ≠ .busWr a v) ∧ (∀ d, Instr.scanline ≠ .cbSet d) :=
  ⟨⟨_, rfl⟩, by decide, by simp, by simp⟩

/-- A transaction that appends an event. -/
theorem witness_TraceIsAppendOnlyAndNeverRead :
    ∃ t, exec (.prgWr 0x8000 0x10) (axrom none) = .next t ∧ t.trace = [.mirroring .oneScreenHigher] :=
  ⟨_, rfl, rfl⟩

/-- A transaction that writes each scratch register, and one that writes none. -/
theorem witness_ScratchRegistersAreNeverRead :
    (∃ t, exec .izy start = .next t) ∧ (∃ t, exec .rel start = .next t) ∧ (∃ t, exec .imp start = .next t) ∧
    ∃ t, exec .scanline nrom = .next t :=
  ⟨⟨_, rfl⟩, ⟨_, rfl⟩, ⟨_, rfl⟩, _, rfl⟩

/-- A refused transaction, one that is not refused, and a state already marked. -/
theorem witness_RefusalSetsTheStickyMarkAlone :
    (∃ t, exec .mapNew start = .next t ∧ t.result = some (.refused .noCartridge)) ∧
    (∃ t, exec .scanline { nrom with refused := true } = .next t ∧ ∀ r, t.result ≠ some (.refused r)) :=
  ⟨⟨_, rfl, rfl⟩, _, rfl, by intro r h; cases h⟩

/-- A result of each kind. -/
theorem witness_EachTransactionReturnsItsKindOfResult :
    (∃ t, exec (.load []) start = .next t ∧ t.result = some (.loadError .truncatedHeader)) ∧
    (∃ t, exec .mapNew { start with
        stack := .loaded (bareCart 7), alloc := { prg := true, chr := true, chrRam := false } } = .next t ∧
      t.result = some (.mapperError .noGraphicsSource)) ∧
    (∃ t, exec .getMirr nrom = .next t ∧ t.result = some (.ok (.mirroring .vertical))) :=
  ⟨⟨_, rfl, rfl⟩, ⟨_, rfl, rfl⟩, _, rfl, rfl⟩

/-- A degraded read, which is no refusal, and a refused one. -/
theorem witness_ReadsMutateNothingAndRepeat :
    Instr.chrRd 0x2000 ∈ [Instr.busRd 0x2000, .prgRd 0x2000, .chrRd 0x2000, .getMirr, .hasXram, .scanline] ∧
    (∃ t, exec (.chrRd 0x2000) nrom = .next t ∧ t.trace = [.log .chrRomOutOfRange] ∧
      ∀ r, t.result ≠ some (.refused r)) ∧
    ∃ t, exec (.chrRd 0x2000) start = .next t ∧ t.result = some (.refused .noMapper) :=
  ⟨by decide, ⟨_, rfl, rfl, by intro r h; cases h⟩, _, rfl, rfl⟩

end Sys2Proof.Tests
end

/-! ## The CNROM family: PRG_WR and CHR_WR with CNROM active (43_mapper_cnrom.md R224, R225) -/

namespace Sys2Proof.Machine

/-- The bit field `data[n-1:0]` the bank-select rules write is the remainder modulo `2 ^ n`. -/
theorem extractLsb'_zero_eq_ofNat_mod {w : Nat} (n : Nat) (x : BitVec w) :
    x.extractLsb' 0 n = BitVec.ofNat n (x.toNat % 2 ^ n) := by
  apply BitVec.eq_of_toNat_eq
  rw [BitVec.extractLsb'_toNat, BitVec.toNat_ofNat, Nat.shiftRight_zero, Nat.mod_mod]

/-- PRG_WR in phase Mapped is the active variant's own rule (R160). -/
theorem exec_prgWr_mapped {s : State} {c : Cartridge} {m : Mapper} (h : s.stack = .mapped c m)
    (a : Word) (d : Byte) : exec (.prgWr a d) s = .next (portPrgWr a d c m s) :=
  congrArg Host.Outcome.next (mapperPort_mapped h (portPrgWr a d))

/-- CHR_WR in phase Mapped is the active variant's own rule (R160). -/
theorem exec_chrWr_mapped {s : State} {c : Cartridge} {m : Mapper} (h : s.stack = .mapped c m)
    (a : Word) (d : Byte) : exec (.chrWr a d) s = .next (portChrWr a d c m s) :=
  congrArg Host.Outcome.next (mapperPort_mapped h (portChrWr a d))

/-- CNROM's PRG write puts `data mod 4` in the bank register and changes nothing else but the result; the
address plays no part (R224). -/
theorem portPrgWr_cnrom (a : Word) (d : Byte) (c : Cartridge) (m : CnromState) (s : State) :
    portPrgWr a d c (.cnrom m) s = { s with
      stack := .mapped c (.cnrom { m with selectedChrBank := BitVec.ofNat 2 (d.toNat % 4) })
      result := some (.ok .empty) } := by
  have hbank : d.extractLsb' 0 2 = BitVec.ofNat 2 (d.toNat % 4) := extractLsb'_zero_eq_ofNat_mod 2 d
  rw [← hbank]
  rfl

/-- CNROM's CHR write only reports success (R225). -/
theorem portChrWr_cnrom (a : Word) (d : Byte) (c : Cartridge) (m : CnromState) (s : State) :
    portChrWr a d c (.cnrom m) s = { s with result := some (.ok .empty) } := rfl

/-- Settles O46: each port is CNROM's own rule, whose next state is known in full. -/
theorem cnromWritesSelectTheChrBank : Obligations.CnromWritesSelectTheChrBank := by
  intro s c m a d h
  constructor
  · rw [exec_prgWr_mapped h, portPrgWr_cnrom]
  · rw [exec_chrWr_mapped h, portChrWr_cnrom]

end Sys2Proof.Machine

/-! ## The Address Bus family: BUS_RD, BUS_WR and the defensive bounds (44_address_bus.md R250 to R252) -/

namespace Sys2Proof.Machine

/-- The defensive bound of R252 on a read. -/
theorem Memory.read_of_busSize_le (m : List Host.Cell) {a : Nat} (h : busSize ≤ a) :
    Memory.read m a = 0x00#8 := if_neg (Nat.not_lt.mpr h)

/-- The defensive bound of R252 on a write. -/
theorem Memory.write_of_busSize_le (m : List Host.Cell) {a : Nat} (v : Byte) (h : busSize ≤ a) :
    Memory.write m a v = m := if_neg (Nat.not_lt.mpr h)

/-- The zero-initialized bus reads 0x00 at every address, in range or past it (R44, R252). -/
@[simp] theorem Memory.read_nil (a : Nat) : Memory.read [] a = 0x00#8 := ite_self _

/-- `MemRead` after `MemWrite` (R9): an address of the port is below the bus size, so the write always takes
effect, and at that one address only. -/
theorem State.memWrite_memRead {s : State} (h : Memory.wf s.bus) (a b : Word) (v : Byte) :
    (s.memWrite a v).memRead b = if b = a then v else s.memRead b := by
  have hread := Memory.read_write a.toNat b.toNat v h a.isLt
  simp only [BitVec.toNat_inj] at hread
  exact hread

/-- A code of unit 0x1 is decoded by the BUS unit, from its low four bits (R91). -/
theorem decode_of_busUnit {code data : Byte} {func : BitVec 4} {addr : Word} {stream : List Byte} {i : Instr}
    (hunit : unitOf code = 0x1#4) (hfunc : funcOf code = func)
    (hbus : decodeBus func ⟨code, addr, data, stream⟩ = some i) :
    decode ⟨code, addr, data, stream⟩ = .ok i := by
  have hassigned : decodeAssigned ⟨code, addr, data, stream⟩ = some i := by
    rw [decodeAssigned, hunit, hfunc]
    exact hbus
  rw [decode, hassigned]

/-- Code 0x10 is BUS_RD with its addr; the fields it does not use are ignored (R90, R92, R250). -/
theorem decode_busRd (a : Word) (data : Byte) (stream : List Byte) :
    decode ⟨0x10#8, a, data, stream⟩ = .ok (.busRd a) :=
  decode_of_busUnit (func := 0x0#4) (by decide) (by decide) rfl

/-- Code 0x11 is BUS_WR with its addr and data (R92, R251). -/
theorem decode_busWr (a : Word) (v : Byte) (stream : List Byte) :
    decode ⟨0x11#8, a, v, stream⟩ = .ok (.busWr a v) :=
  decode_of_busUnit (func := 0x1#4) (by decide) (by decide) rfl

/-- BUS_RD answers the byte `MemRead` gives (R250). -/
theorem exec_busRd (a : Word) (s : State) : exec (.busRd a) s = .next (s.ok (.byte (s.memRead a))) := rfl

/-- BUS_WR is `MemWrite` in every phase; it reaches no mapper (R61, R251). -/
theorem exec_busWr (a : Word) (v : Byte) (s : State) :
    exec (.busWr a v) s = .next ((s.memWrite a v).ok .empty) := rfl

/-- Settles O13: the next state is `MemWrite`'s with the result put in, so what it reads is the
read-after-write rule, and its canonical form is kept by every write. -/
theorem busWriteStoresOneByte : Obligations.BusWriteStoresOneByte := by
  refine ⟨decode_busWr, fun s a v hwf => ?_⟩
  refine ⟨_, exec_busWr a v s, fun b => ?reads, ?canonical, ?frame⟩
  case reads => rw [State.ok_memRead, State.memWrite_memRead hwf]
  case canonical =>
    rw [State.ok_bus, State.memWrite_bus]
    exact Memory.write_wf a.toNat v hwf
  case frame => rfl

/-- Settles O12: BUS_RD's next state is known in full, and the bus of session start is empty. -/
theorem busReadReturnsTheByte : Obligations.BusReadReturnsTheByte := by
  refine ⟨decode_busRd, fun s a => exec_busRd a s, fun a => ?_⟩
  have hzero : State.reset.memRead a = 0x00#8 := Memory.read_nil a.toNat
  rw [exec_busRd, hzero]
  rfl

/-- Settles O14: both sides of the defensive bound. -/
theorem pastTheBusReadsZeroAndIgnoresWrites : Obligations.PastTheBusReadsZeroAndIgnoresWrites :=
  fun m _ v h => ⟨Memory.read_of_busSize_le m h, Memory.write_of_busSize_le m v h⟩

end Sys2Proof.Machine

/-! ## The addressing modes: IMP, IMM, the zero-page modes and ABS (45_addressing_modes.md R263 to R268) -/

namespace Sys2Proof.Machine

/-- A code of unit 0x0 is decoded by the RESOLVE unit, from its low four bits; no other field is read
(R90, R91). -/
theorem decode_of_resolveUnit {code data : Byte} {addr : Word} {stream : List Byte} {i : Instr}
    (hunit : unitOf code = 0x0#4) (hresolve : decodeResolve (funcOf code) = some i) :
    decode ⟨code, addr, data, stream⟩ = .ok i := by
  have hassigned : decodeAssigned ⟨code, addr, data, stream⟩ = some i := by
    rw [decodeAssigned, hunit]
    exact hresolve
  rw [decode, hassigned]

/-- The mask of a zero-page address is the remainder modulo 256; the sum of two bytes does not overflow the
u16 before it (R109). -/
theorem zeroPage_eq_ofNat_mod (b i : Byte) : zeroPage b i = BitVec.ofNat 16 ((b.toNat + i.toNat) % 256) := by
  apply BitVec.eq_of_toNat_eq
  have hmask (n : Nat) : n &&& 255 = n % 256 := Nat.and_two_pow_sub_one_eq_mod n 8
  simp only [zeroPage, BitVec.toNat_and, BitVec.toNat_add, BitVec.toNat_setWidth, BitVec.toNat_ofNat]
  rw [hmask]
  omega

/-- `hi:lo` is the concatenation of the two bytes (R8). -/
theorem pair_eq_append (hi lo : Byte) : pair hi lo = hi ++ lo := by
  apply BitVec.eq_of_toNat_eq
  rw [pair_toNat, BitVec.toNat_append, ← Nat.shiftLeft_add_eq_or_of_lt lo.isLt, Nat.shiftLeft_eq]

/-- The zero-page modes of every index: one operand byte, the address of R109, and no page cross. -/
theorem resolveZeroPage_eq (i : Byte) (s : State) :
    resolveZeroPage i s = { s with
      cpu := { s.cpu with
        absoluteAddress := BitVec.ofNat 16 (((s.memRead s.cpu.pc).toNat + i.toNat) % 256)
        pc := s.cpu.pc + 1 }
      result := some (.ok (.bool false)) } := by
  rw [resolveZeroPage, fetch8_eq, zeroPage_eq_ofNat_mod]
  rfl

/-- Settles O18: the three modes are one rule at three indices. -/
theorem zeroPageModesStayInPageZero : Obligations.ZeroPageModesStayInPageZero := by
  refine ⟨fun addr data stream => ⟨?_, ?_, ?_⟩, fun s i index hmode => ?_⟩
  · exact decode_of_resolveUnit (by decide) rfl
  · exact decode_of_resolveUnit (by decide) rfl
  · exact decode_of_resolveUnit (by decide) rfl
  · have hexec : exec i s = .next (resolveZeroPage index s) := by
      simp only [List.mem_cons, List.not_mem_nil, or_false, Prod.mk.injEq] at hmode
      obtain ⟨rfl, rfl⟩ | ⟨rfl, rfl⟩ | ⟨rfl, rfl⟩ := hmode
      · rfl
      · rfl
      · rfl
    rw [hexec, resolveZeroPage_eq]

/-- Settles O16: A goes to fetchedOperand, and PC and the bus play no part. -/
theorem impliedDeliversTheAccumulator : Obligations.ImpliedDeliversTheAccumulator :=
  ⟨fun _ _ _ => decode_of_resolveUnit (by decide) rfl, fun _ => rfl⟩

/-- Settles O17: the address is PC as it was before the advance. -/
theorem immediateAddressesThePc : Obligations.ImmediateAddressesThePc :=
  ⟨fun _ _ _ => decode_of_resolveUnit (by decide) rfl, fun _ => rfl⟩

/-- Settles O19: the two operand bytes are fetched low then high, and their pair is the concatenation. -/
theorem absoluteIsLittleEndian : Obligations.AbsoluteIsLittleEndian := by
  refine ⟨fun addr data stream => decode_of_resolveUnit (by decide) rfl, fun s => ?_⟩
  have hexec : exec .abs s =
      .next (((fetch16 s).2.setAbsoluteAddress (pair (fetch16 s).1.1 (fetch16 s).1.2)).resolved false) := rfl
  rw [hexec, fetch16_eq, pair_eq_append]
  rfl

end Sys2Proof.Machine

/-! ## Encoding: the written form, the decoder and the encoder (30_encoding.md R90 to R94, R113) -/

namespace Sys2Proof

/-- A transaction with every field its code does not use put to zero: the form R113 writes. -/
def Transaction.written (t : Transaction) : Transaction :=
  { code := t.code
    addr := if usesAddr t.code then t.addr else 0#16
    data := if usesData t.code then t.data else 0#8
    stream := if usesStream t.code then t.stream else [] }

@[simp] theorem Transaction.written_code (t : Transaction) : t.written.code = t.code := rfl

/-- A well-formed transaction is its own written form. -/
theorem Transaction.written_of_wellFormed {t : Transaction} (h : t.wellFormed = true) : t.written = t := by
  simp only [Transaction.wellFormed, Bool.and_eq_true, Bool.or_eq_true, beq_iff_eq, List.isEmpty_iff] at h
  obtain ⟨⟨⟨-, haddr⟩, hdata⟩, hstream⟩ := h
  obtain ⟨code, addr, data, stream⟩ := t
  simp only [Transaction.written, Transaction.mk.injEq, ite_eq_left_iff, Bool.not_eq_true, true_and]
  exact ⟨fun hu => (haddr.resolve_left (by simp [hu])).symm, fun hu => (hdata.resolve_left (by simp [hu])).symm,
    fun hu => (hstream.resolve_left (by simp [hu])).symm⟩

/-- The 25 codes of R92. -/
def assignedCodes : List Byte :=
  [0x00#8, 0x01#8, 0x02#8, 0x03#8, 0x04#8, 0x05#8, 0x06#8, 0x07#8, 0x08#8, 0x09#8, 0x0A#8, 0x0B#8,
    0x10#8, 0x11#8, 0x20#8, 0x21#8, 0x22#8, 0x23#8, 0x24#8, 0x25#8, 0x26#8, 0x30#8, 0x31#8, 0x32#8, 0x33#8]

/-- The ranges of R92 hold no other code. -/
theorem mem_assignedCodes : ∀ code : Byte, codeAssigned code = true → code ∈ assignedCodes := by decide

/-- Every assigned code decodes, and the instruction is written as the transaction's written form. -/
theorem decode_of_codeAssigned {t : Transaction} (h : codeAssigned t.code = true) :
    ∃ i, decode t = .ok i ∧ encode i = t.written := by
  obtain ⟨code, addr, data, stream⟩ := t
  have hmem : code ∈ assignedCodes := mem_assignedCodes code h
  simp only [decode, decodeAssigned, Transaction.written]
  fin_cases hmem <;> exact ⟨_, rfl, rfl⟩

/-- Every written form meets R113, by its constructor's own lemma. -/
theorem wellFormed_encode (i : Instr) : (encode i).wellFormed = true :=
  match i with
  | .imp => Laws.Written.imp
  | .imm => Laws.Written.imm
  | .zp0 => Laws.Written.zp0
  | .zpx => Laws.Written.zpx
  | .zpy => Laws.Written.zpy
  | .abs => Laws.Written.abs
  | .abx => Laws.Written.abx
  | .aby => Laws.Written.aby
  | .ind => Laws.Written.ind
  | .izx => Laws.Written.izx
  | .izy => Laws.Written.izy
  | .rel => Laws.Written.rel
  | .busRd a => Laws.Written.busRd a
  | .busWr a d => Laws.Written.busWr a d
  | .prgRd a => Laws.Written.prgRd a
  | .chrRd a => Laws.Written.chrRd a
  | .prgWr a d => Laws.Written.prgWr a d
  | .chrWr a d => Laws.Written.chrWr a d
  | .getMirr => Laws.Written.getMirr
  | .hasXram => Laws.Written.hasXram
  | .scanline => Laws.Written.scanline
  | .load stream => Laws.Written.load stream
  | .mapNew => Laws.Written.mapNew
  | .mapNewNull => Laws.Written.mapNewNull
  | .cbSet d => Laws.Written.cbSet d

/-- The decoder reads back what the encoder writes, for every constructor and every operand. -/
theorem decode_encode (i : Instr) : decode (encode i) = .ok i := by
  cases i <;> simp only [encode, decode, decodeAssigned] <;> rfl

/-- No two instructions share a written form. -/
theorem encode_injective {i j : Instr} (h : encode i = encode j) : i = j := by
  have hdecode := congrArg decode h
  rw [decode_encode, decode_encode] at hdecode
  exact Except.ok.inj hdecode

/-! ### Reserved codes (R91, R94) -/

/-- The unit is the code's high hexadecimal digit. -/
theorem unitOf_toNat (code : Byte) : (unitOf code).toNat = code.toNat / 16 := by
  rw [unitOf, BitVec.extractLsb'_toNat, Nat.shiftRight_eq_div_pow]
  omega

/-- The function is the code's low hexadecimal digit. -/
theorem funcOf_toNat (code : Byte) : (funcOf code).toNat = code.toNat % 16 := by
  rw [funcOf, BitVec.extractLsb'_toNat, Nat.shiftRight_zero]

/-- Unit RESOLVE has no function above 0xB. -/
theorem decodeResolve_eq_none {func : BitVec 4} (h : 0xB < func.toNat) : decodeResolve func = none := by
  unfold decodeResolve
  split
  case h_13 => rfl
  all_goals omega

/-- Unit BUS has no function above 0x1. -/
theorem decodeBus_eq_none {func : BitVec 4} (t : Transaction) (h : 0x1 < func.toNat) : decodeBus func t = none := by
  unfold decodeBus
  split
  case h_3 => rfl
  all_goals omega

/-- Unit MAPPER has no function above 0x6. -/
theorem decodeMapper_eq_none {func : BitVec 4} (t : Transaction) (h : 0x6 < func.toNat) :
    decodeMapper func t = none := by
  unfold decodeMapper
  split
  case h_8 => rfl
  all_goals omega

/-- Unit CONFIG has no function above 0x3. -/
theorem decodeConfig_eq_none {func : BitVec 4} (t : Transaction) (h : 0x3 < func.toNat) :
    decodeConfig func t = none := by
  unfold decodeConfig
  split
  case h_5 => rfl
  all_goals omega

/-- A code outside R92's ranges names no instruction: its unit is reserved, or its function is past the last of
its unit. -/
theorem decode_of_reserved {t : Transaction} (h : codeAssigned t.code = false) :
    decode t = .error (.reservedCode t.code) := by
  have hnone : decodeAssigned t = none := by
    have hunit := unitOf_toNat t.code
    have hfunc := funcOf_toNat t.code
    simp only [codeAssigned, Bool.or_eq_false_iff, Bool.and_eq_false_iff, decide_eq_false_iff_not] at h
    unfold decodeAssigned
    split
    · exact decodeResolve_eq_none (by omega)
    · exact decodeBus_eq_none t (by omega)
    · exact decodeMapper_eq_none t (by omega)
    · exact decodeConfig_eq_none t (by omega)
    · rfl
  rw [decode, hnone]

/-- The decoder reads a transaction only through its written form. -/
theorem decode_eq_of_written_eq {t u : Transaction} (h : t.written = u.written) : decode t = decode u := by
  have hcode : t.code = u.code := by simpa using congrArg Transaction.code h
  cases ha : codeAssigned t.code with
  | true =>
    obtain ⟨i, hi, hwritten⟩ := decode_of_codeAssigned ha
    obtain ⟨j, hj, hwritten'⟩ := decode_of_codeAssigned (hcode ▸ ha)
    rw [hi, hj, encode_injective ((hwritten.trans h).trans hwritten'.symm)]
  | false => rw [decode_of_reserved ha, decode_of_reserved (hcode ▸ ha), hcode]

/-- Settles O4: the written form is well-formed and is decoded back, constructor by constructor. -/
theorem decodeOfEncodeIsTheInstruction : Obligations.DecodeOfEncodeIsTheInstruction :=
  fun i => ⟨wellFormed_encode i, decode_encode i⟩

/-- Settles O5: an assigned code is written as the written form, which a well-formed transaction is itself. -/
theorem encodeOfDecodeIsTheTransaction : Obligations.EncodeOfDecodeIsTheTransaction := by
  intro t h
  have hfields := h
  simp only [Transaction.wellFormed, Bool.and_eq_true] at hfields
  obtain ⟨⟨⟨hassigned, -⟩, -⟩, -⟩ := hfields
  obtain ⟨i, hi, hwritten⟩ := decode_of_codeAssigned hassigned
  exact ⟨i, hi, hwritten.trans (Transaction.written_of_wellFormed h)⟩

/-- Settles O6: each of the 25 is the decoder run on one literal transaction. -/
theorem writtenCodesDecode : Obligations.WrittenCodesDecode := by
  unfold Obligations.WrittenCodesDecode
  decide

/-- Settles O7: the two transactions have one written form. -/
theorem unusedOperandsAreIgnored : Obligations.UnusedOperandsAreIgnored := by
  intro code addr addr' data data' stream stream' haddr hdata hstream
  apply decode_eq_of_written_eq
  have hcode (n : Byte) : code = n ↔ code.toNat = n.toNat := BitVec.toNat_inj.symm
  simp only [List.mem_cons, List.not_mem_nil, or_false] at haddr hdata
  simp only [Transaction.written, Transaction.mk.injEq, true_and]
  refine ⟨?_, ?_, ?_⟩
  · refine ite_congr rfl (fun hu => haddr ?_) fun _ => rfl
    simpa [usesAddr, hcode, or_assoc] using hu
  · refine ite_congr rfl (fun hu => hdata ?_) fun _ => rfl
    simpa [usesData, hcode, or_assoc] using hu
  · refine ite_congr rfl (fun hu => hstream ?_) fun _ => rfl
    simpa [usesStream, hcode] using hu

end Sys2Proof

/-! ## One step: the script, reserved codes and the end of a session (20_memory.md R77, 30_encoding.md R94) -/

namespace Sys2Proof.Machine

/-- A transaction at the head of the script is issued, its line taken off. -/
theorem step_transaction {s : State} {t : Transaction} {rest : List ScriptLine}
    (h : s.script = .transaction t :: rest) : step s = issue t (s.setScript rest) := by
  simp only [step, takeLine, h]

/-- A `.reg` line at the head of the script sets registers, its line taken off (R113). -/
theorem step_reg {s : State} {r : RegLine} {rest : List ScriptLine} (h : s.script = .reg r :: rest) :
    step s = .next (consumerSets r (s.setScript rest)) := by
  simp only [step, takeLine, h]

/-- With no line left the block idles (R334). -/
theorem step_nil {s : State} (h : s.script = []) : step s = .next s := by
  simp only [step, takeLine, h]

/-- A transaction that decodes is executed. -/
theorem issue_of_decode {t : Transaction} {i : Instr} (h : decode t = .ok i) (s : State) :
    issue t s = exec i s := by
  simp only [issue, h]

/-- A transaction with a reserved code is refused (R94). -/
theorem issue_of_reserved {t : Transaction} (h : codeAssigned t.code = false) (s : State) :
    issue t s = .next (s.refuse .reservedCode) := by
  simp only [issue, decode_of_reserved h]

/-- Every transaction answers a next state: no arm of `exec` faults or refuses the machine. -/
theorem exec_eq_next (i : Instr) (s : State) : ∃ t, exec i s = .next t := by
  cases i <;> exact ⟨_, rfl⟩

/-- What issuing a transaction is: executing its instruction, or refusing its reserved code. -/
theorem issue_cases (t : Transaction) (s : State) :
    (∃ i, issue t s = exec i s) ∨ issue t s = .next (s.refuse .reservedCode) := by
  cases h : codeAssigned t.code with
  | true =>
    obtain ⟨i, hi, -⟩ := decode_of_codeAssigned h
    exact .inl ⟨i, issue_of_decode hi s⟩
  | false => exact .inr (issue_of_reserved h s)

/-- Everything one step can do: idle, set registers, execute an instruction, or refuse a reserved code. -/
theorem step_cases (s : State) :
    step s = .next s ∨ (∃ r rest, step s = .next (consumerSets r (s.setScript rest))) ∨
      (∃ i rest, step s = exec i (s.setScript rest)) ∨
      (∃ rest, step s = .next ((s.setScript rest).refuse .reservedCode)) := by
  match h : s.script with
  | [] => exact .inl (step_nil h)
  | .reg r :: rest => exact .inr (.inl ⟨r, rest, step_reg h⟩)
  | .transaction t :: rest =>
    rw [step_transaction h]
    rcases issue_cases t (s.setScript rest) with ⟨i, hi⟩ | hr
    · exact .inr (.inr (.inl ⟨i, rest, hi⟩))
    · exact .inr (.inr (.inr ⟨rest, hr⟩))

/-- Settles O8: the line is taken off and the decoded instruction executed. -/
theorem stepRunsTheDecodedTransaction : Obligations.StepRunsTheDecodedTransaction := by
  intro s t rest i hscript hdecode
  rw [step_transaction hscript, issue_of_decode hdecode]
  rfl

/-- Settles O9: the five ranges are exactly the codes outside R92's. -/
theorem reservedCodesAreRefused : Obligations.ReservedCodesAreRefused := by
  intro s t rest hscript hrange
  have hreserved : codeAssigned t.code = false := by
    simp only [codeAssigned, Bool.or_eq_false_iff, Bool.and_eq_false_iff, decide_eq_false_iff_not]
    omega
  rw [step_transaction hscript, issue_of_reserved hreserved]
  rfl

/-- Settles O10: a register the line does not name falls back to its old value. -/
theorem regLinesAndTheEndOfAScript : Obligations.RegLinesAndTheEndOfAScript := by
  refine ⟨fun s r rest hscript => ⟨_, step_reg hscript, rfl, ?_⟩, fun s hscript => step_nil hscript⟩
  obtain ⟨pc, a, x, y, absoluteAddress, relativeOffset, fetchedOperand⟩ := r
  refine ⟨?_, ?_, ?_, ?_, ?_, ?_, ?_⟩
  · cases pc <;> rfl
  · cases a <;> rfl
  · cases x <;> rfl
  · cases y <;> rfl
  · cases absoluteAddress <;> rfl
  · cases relativeOffset <;> rfl
  · cases fetchedOperand <;> rfl

/-- Settles O11: in each case of a step the outcome is a next state. -/
theorem everyStepAnswersANextState : Obligations.EveryStepAnswersANextState := by
  intro s
  rcases step_cases s with h | ⟨r, rest, h⟩ | ⟨i, rest, h⟩ | ⟨rest, h⟩
  · exact ⟨_, h⟩
  · exact ⟨_, h⟩
  · exact h ▸ exec_eq_next i (s.setScript rest)
  · exact ⟨_, h⟩

end Sys2Proof.Machine

/-! ## The cartridge stack: how a transaction can move it, and the invariant (10_state.md R21, R28 to R43) -/

namespace Sys2Proof.Machine

/-! ### The views of the stack (R20, R21) -/

section Views

variable {s t : State} {c : Cartridge} {m : Mapper}

theorem phase_empty (h : s.stack = .empty) : s.phase = .empty := by simp only [State.phase, h]
theorem phase_loaded (h : s.stack = .loaded c) : s.phase = .loaded := by simp only [State.phase, h]
theorem cart_empty (h : s.stack = .empty) : s.cart = none := by simp only [State.cart, h]
theorem cart_loaded (h : s.stack = .loaded c) : s.cart = some c := by simp only [State.cart, h]
theorem cart_mapped (h : s.stack = .mapped c m) : s.cart = some c := by simp only [State.cart, h]
theorem mapper_empty (h : s.stack = .empty) : s.mapper = none := by simp only [State.mapper, h]
theorem mapper_loaded (h : s.stack = .loaded c) : s.mapper = none := by simp only [State.mapper, h]
theorem mapper_mapped (h : s.stack = .mapped c m) : s.mapper = some m := by simp only [State.mapper, h]

/-- The views read nothing but the stack. -/
theorem views_eq_of_stack_eq (h : t.stack = s.stack) :
    t.phase = s.phase ∧ t.cart = s.cart ∧ t.mapper = s.mapper := by
  simp only [State.phase, State.cart, State.mapper, h, and_self]

end Views

/-! ### What LOAD and MAP_NEW establish -/

/-- A header gives one of three mirroring values (R141). -/
theorem mirroringOf_cases (h6 : Byte) :
    mirroringOf h6 = .horizontal ∨ mirroringOf h6 = .vertical ∨ mirroringOf h6 = .fourScreen := by
  unfold mirroringOf
  split
  · exact .inr (.inr rfl)
  · split
    · exact .inr (.inl rfl)
    · exact .inl rfl

/-- A stream that parses gives a cartridge with the sizes its bank counts say. -/
theorem parseImage_inv {alloc : AllocAnswers} {stream : List Byte} {c : Cartridge}
    (h : parseImage alloc stream = .ok c) : c.Inv := by
  obtain ⟨rfl, hbanks, -, hlength⟩ := parseImage_ok h
  refine ⟨hbanks, ?prg, ?chr, mirroringOf_cases _⟩
  case prg =>
    simp only [cartridgeOf, List.length_take, List.length_drop]
    exact Nat.min_eq_left (by omega)
  case chr =>
    simp only [cartridgeOf, List.length_take, List.length_drop]
    exact Nat.min_eq_left (by omega)

/-- AxROM is built with character RAM exactly when there is no CHR ROM, and with 8192 bytes of it (R190, D13). -/
theorem constructAxrom_inv {alloc : AllocAnswers} {c : Cartridge} {m : Mapper} (hn : c.mapperNumber = 7#8)
    (h : constructAxrom alloc c = .ok m) : m.Inv c := by
  unfold constructAxrom at h
  split at h
  · split at h
    · cases h
      exact ⟨hn, ‹_›, by rw [List.length_map, List.length_range]⟩
    · cases h
  · cases h
    exact ⟨hn, ‹_›⟩

/-! ### The moves of the stack -/

/-- How a transaction can move the cartridge stack. Every other transaction leaves it as it is. -/
inductive StackMove (i : Instr) (s t : State) : Prop where
  | kept (ht : t.stack = s.stack)
  | loads (stream : List Byte) (c : Cartridge) (hi : i = .load stream) (hs : s.stack = .empty)
      (hp : parseImage s.alloc stream = .ok c) (ht : t.stack = .loaded c)
  | builds (c : Cartridge) (m : Mapper) (hi : i = .mapNew ∨ i = .mapNewNull) (hs : s.stack = .loaded c)
      (hm : m.Inv c) (ht : t.stack = .mapped c m)
  | axromSelects (a : Word) (d : Byte) (c : Cartridge) (m : AxromState) (bank : BitVec 3) (mode : OneScreen)
      (hi : i = .prgWr a d) (ha : 0x8000 ≤ a.toNat) (hs : s.stack = .mapped c (.axrom m))
      (ht : t.stack = .mapped c (.axrom { m with selectedPrgBank := bank, mirroringMode := mode }))
  | axromStores (a : Word) (d : Byte) (c : Cartridge) (m : AxromState) (ram ram' : List Byte)
      (hi : i = .chrWr a d) (hs : s.stack = .mapped c (.axrom m)) (hr : m.characterRam = some ram)
      (hlength : ram'.length = ram.length)
      (ht : t.stack = .mapped c (.axrom { m with characterRam := some ram' }))
  | cnromSelects (a : Word) (d : Byte) (c : Cartridge) (m : CnromState) (bank : BitVec 2)
      (hi : i = .prgWr a d) (hs : s.stack = .mapped c (.cnrom m))
      (ht : t.stack = .mapped c (.cnrom { m with selectedChrBank := bank }))

/-- The mirroring hook appends an event and leaves the stack alone. -/
@[simp] theorem State.mirroringHook_stack (s : State) (m : OneScreen) : (s.mirroringHook m).stack = s.stack := by
  rw [State.mirroringHook_eq]

/-- Every transaction moves the stack in one of these ways. -/
theorem exec_stackMove {i : Instr} {s t : State} (h : exec i s = .next t) : StackMove i s t := by
  cases exec_effect h with
  | loads c hs hp => exact .loads _ c rfl hs hp rfl
  | buildsNull c hs => exact .builds c .null (.inr rfl) hs trivial rfl
  | buildsNrom c hs hn => exact .builds c .nrom (.inl rfl) hs hn rfl
  | buildsAxrom c m hs hn hm => exact .builds c m (.inl rfl) hs (constructAxrom_inv hn hm) rfl
  | buildsCnrom c hs hn => exact .builds c (constructCnrom c) (.inl rfl) hs ⟨hn, rfl⟩ rfl
  | axromSelects a d c m hs ha => exact .axromSelects a d c m _ _ rfl ha hs (State.mirroringHook_stack _ _)
  | axromStores a d c m ram hs hr => exact .axromStores a d c m ram _ rfl hs hr List.length_set rfl
  | cnromSelects a d c m hs => exact .cnromSelects a d c m _ rfl hs rfl
  | _ => exact .kept rfl

/-- A move of the stack keeps its invariant. -/
theorem StackMove.inv {i : Instr} {s t : State} (hmove : StackMove i s t) (h : s.stack.Inv) : t.stack.Inv := by
  cases hmove with
  | kept ht => rwa [ht]
  | loads stream c hi hs hp ht => exact ht ▸ parseImage_inv hp
  | builds c m hi hs hm ht =>
    rw [hs] at h
    exact ht ▸ ⟨h, hm⟩
  | axromSelects a d c m bank mode hi ha hs ht =>
    rw [hs] at h
    exact ht ▸ h
  | axromStores a d c m ram ram' hi hs hr hlength ht =>
    rw [hs] at h
    obtain ⟨hcart, hnumber, hram⟩ := h
    rw [hr] at hram
    obtain ⟨hchr, hsize⟩ := hram
    exact ht ▸ ⟨hcart, hnumber, hchr, hlength.trans hsize⟩
  | cnromSelects a d c m bank hi hs ht =>
    rw [hs] at h
    exact ht ▸ h

/-! ### The bus -/

/-- A transaction's bus is the old one, or BUS_WR's. -/
theorem exec_bus {i : Instr} {s t : State} (h : exec i s = .next t) :
    t.bus = s.bus ∨ ∃ a v, i = .busWr a v ∧ t.bus = Memory.write s.bus a.toNat v := by
  cases exec_effect h with
  | busWrite a v => exact .inr ⟨a, v, rfl, rfl⟩
  | axromSelects a d c m hs ha => exact .inl (by simp [State.mirroringHook_eq])
  | _ => exact .inl rfl

/-- A transaction keeps the bus in canonical form. -/
theorem exec_bus_wf {i : Instr} {s t : State} (h : exec i s = .next t) (hwf : Memory.wf s.bus) :
    Memory.wf t.bus := by
  rcases exec_bus h with hbus | ⟨a, v, -, hbus⟩
  · rwa [hbus]
  · exact hbus ▸ Memory.write_wf a.toNat v hwf

/-- A transaction keeps the invariant. -/
theorem exec_inv {i : Instr} {s t : State} (h : exec i s = .next t) (hinv : s.Inv) : t.Inv :=
  ⟨exec_bus_wf h hinv.1, (exec_stackMove h).inv hinv.2⟩

/-- Settles O2: the bus and the stack of session start are empty. -/
theorem resetMeetsTheInvariant : Obligations.ResetMeetsTheInvariant := ⟨Memory.nil_wf, trivial⟩

/-- Settles O3: only an executed transaction touches the bus or the stack, and it keeps the invariant. -/
theorem stepKeepsTheInvariant : Obligations.StepKeepsTheInvariant := by
  intro s t hinv hstep
  rcases step_cases s with h | ⟨r, rest, h⟩ | ⟨i, rest, h⟩ | ⟨rest, h⟩
  · cases h.symm.trans hstep
    exact hinv
  · cases h.symm.trans hstep
    exact hinv
  · exact exec_inv (s := s.setScript rest) (h.symm.trans hstep) hinv
  · cases h.symm.trans hstep
    exact hinv

/-- Settles O1: every clause is a field of `State.reset`. -/
theorem resetIsSessionStart : Obligations.ResetIsSessionStart :=
  ⟨rfl, rfl, rfl, rfl, fun a => Memory.read_nil a.toNat, rfl, rfl, rfl⟩

/-! ### What the moves leave unchanged -/

/-- Settles O51: only the loading and the building move change the phase. -/
theorem phaseMovesOnlyForward : Obligations.PhaseMovesOnlyForward := by
  intro s t i h hphase
  cases exec_stackMove h with
  | kept ht => exact absurd (views_eq_of_stack_eq ht).1.symm hphase
  | loads stream c hi hs hp ht => exact .inl ⟨phase_empty hs, phase_loaded ht, stream, hi⟩
  | builds c m hi hs hm ht => exact .inr ⟨phase_loaded hs, phase_mapped ht, hi⟩
  | axromSelects a d c m bank mode hi ha hs ht => exact absurd (phase_mapped ht ▸ phase_mapped hs) hphase
  | axromStores a d c m ram ram' hi hs hr hlength ht => exact absurd (phase_mapped ht ▸ phase_mapped hs) hphase
  | cnromSelects a d c m bank hi hs ht => exact absurd (phase_mapped ht ▸ phase_mapped hs) hphase

/-- Settles O52: a move never replaces the cartridge, and a mapper's registers keep its kind and CNROM's
`singleBank`. -/
theorem cartridgeAndMapperKindAreFixed : Obligations.CartridgeAndMapperKindAreFixed := by
  intro s t i h
  cases exec_stackMove h with
  | kept ht =>
    obtain ⟨-, hcart, hmapper⟩ := views_eq_of_stack_eq ht
    rw [hcart, hmapper]
    exact ⟨fun c hc => hc, fun m hm => ⟨m, hm, rfl⟩, fun n hn => ⟨n, hn, rfl⟩⟩
  | loads stream c hi hs hp ht => simp [cart_empty hs, mapper_empty hs]
  | builds c m hi hs hm ht => simp [cart_loaded hs, mapper_loaded hs, cart_mapped ht]
  | axromSelects a d c m bank mode hi ha hs ht =>
    simp [cart_mapped hs, mapper_mapped hs, cart_mapped ht, mapper_mapped ht, Mapper.kind]
  | axromStores a d c m ram ram' hi hs hr hlength ht =>
    simp [cart_mapped hs, mapper_mapped hs, cart_mapped ht, mapper_mapped ht, Mapper.kind]
  | cnromSelects a d c m bank hi hs ht =>
    simp [cart_mapped hs, mapper_mapped hs, cart_mapped ht, mapper_mapped ht, Mapper.kind]

/-- Settles O53: each register of a mapper is written by one move, whose transaction is named in it. -/
theorem onlyMapperWritesChangeAMapper : Obligations.OnlyMapperWritesChangeAMapper := by
  intro s t i h
  cases exec_stackMove h with
  | kept ht =>
    obtain ⟨-, -, hmapper⟩ := views_eq_of_stack_eq ht
    rw [hmapper]
    exact ⟨fun m hm => ⟨m, hm, fun _ => ⟨rfl, rfl⟩, fun _ => rfl⟩, fun n hn _ => hn⟩
  | loads stream c hi hs hp ht => simp [mapper_empty hs]
  | builds c m hi hs hm ht => simp [mapper_loaded hs]
  | axromSelects a d c m bank mode hi ha hs ht =>
    have hlow : ¬ ∀ a' d', i = .prgWr a' d' → a'.toNat < 0x8000 := fun hall => by
      have := hall a d hi
      omega
    simp [mapper_mapped hs, mapper_mapped ht, hlow]
  | axromStores a d c m ram ram' hi hs hr hlength ht => simp [mapper_mapped hs, mapper_mapped ht, hi]
  | cnromSelects a d c m bank hi hs ht => simp [mapper_mapped hs, mapper_mapped ht, hi]

end Sys2Proof.Machine

/-! ## Which transaction writes which field, and what it returns (10_state.md R23, R26, R40, R47; 30_encoding.md R93) -/

namespace Sys2Proof.Machine

/-! ### The mirroring hook touches the trace alone (R196) -/

section Hook

variable (s : State) (m : OneScreen)

@[simp] theorem State.mirroringHook_cpu : (s.mirroringHook m).cpu = s.cpu := by rw [State.mirroringHook_eq]
@[simp] theorem State.mirroringHook_callbackRegistered :
    (s.mirroringHook m).callbackRegistered = s.callbackRegistered := by rw [State.mirroringHook_eq]
@[simp] theorem State.mirroringHook_refused : (s.mirroringHook m).refused = s.refused := by
  rw [State.mirroringHook_eq]
@[simp] theorem State.mirroringHook_alloc : (s.mirroringHook m).alloc = s.alloc := by rw [State.mirroringHook_eq]
@[simp] theorem State.mirroringHook_script : (s.mirroringHook m).script = s.script := by
  rw [State.mirroringHook_eq]

end Hook

/-! ### One rule per field -/

/-- The twelve resolvers of R92. -/
abbrev resolvers : List Instr := [.imp, .imm, .zp0, .zpx, .zpy, .abs, .abx, .aby, .ind, .izx, .izy, .rel]

section Fields

variable {i : Instr} {s t : State} (h : exec i s = .next t)

include h

/-- No transaction writes A, X or Y (R23). -/
theorem exec_indexRegisters : t.cpu.a = s.cpu.a ∧ t.cpu.x = s.cpu.x ∧ t.cpu.y = s.cpu.y := by
  cases exec_effect h with
  | resolve c extra hi ha hx hy => exact ⟨ha, hx, hy⟩
  | axromSelects a d c m hs ha => simp
  | _ => exact ⟨rfl, rfl, rfl⟩

/-- Only a resolver writes the register block (R260). -/
theorem exec_cpu_of_notMem (hi : i ∉ resolvers) : t.cpu = s.cpu := by
  cases exec_effect h with
  | resolve c extra hmem ha hx hy => exact absurd hmem hi
  | axromSelects a d c m hs ha => simp
  | _ => rfl

/-- Only CB_SET writes the callback mark (R40). -/
theorem exec_callbackRegistered (hi : ∀ d, i ≠ .cbSet d) : t.callbackRegistered = s.callbackRegistered := by
  cases exec_effect h with
  | callback d => exact absurd rfl (hi d)
  | axromSelects a d c m hs ha => simp
  | _ => rfl

/-- No transaction writes the host's answers or the remaining script. -/
theorem exec_alloc_script : t.alloc = s.alloc ∧ t.script = s.script := by
  cases exec_effect h with
  | axromSelects a d c m hs ha => simp
  | _ => exact ⟨rfl, rfl⟩

/-- A transaction is refused, and then does nothing else, or keeps the sticky mark and returns another result
(R47, R303). -/
theorem exec_refused_cases :
    (∃ r, t = s.refuse r) ∨ (t.refused = s.refused ∧ ∀ r, t.result ≠ some (.refused r)) := by
  cases exec_effect h with
  | loadRefused stream hs => exact .inl ⟨_, rfl⟩
  | constructRefused r hi hs => exact .inl ⟨r, rfl⟩
  | unsupported c hs hn => exact .inl ⟨_, rfl⟩
  | portRefused hs hi => exact .inl ⟨_, rfl⟩
  | axromSelects a d c m hs ha => exact .inr (by simp)
  | _ => exact .inr ⟨rfl, by simp⟩

end Fields

/-- Settles O54: the rules of the fields, one beside the other. -/
theorem eachFieldHasItsOwnWriters : Obligations.EachFieldHasItsOwnWriters := by
  intro s t i h
  obtain ⟨ha, hx, hy⟩ := exec_indexRegisters h
  refine ⟨ha, hx, hy, exec_cpu_of_notMem h, fun hi => ?_, exec_callbackRegistered h, exec_alloc_script h⟩
  rcases exec_bus h with hbus | ⟨a, v, hwrite, -⟩
  · exact hbus
  · exact absurd hwrite (hi a v)

/-- Settles O57: each clause is read off the two cases of a refusal. -/
theorem refusalSetsTheStickyMarkAlone : Obligations.RefusalSetsTheStickyMarkAlone := by
  intro s t i h
  rcases exec_refused_cases h with ⟨r, rfl⟩ | ⟨hmark, hresult⟩
  · refine ⟨fun _ => rfl, fun r' hr => ?_, fun hno => absurd rfl (hno r)⟩
    cases hr
    rfl
  · exact ⟨fun hs => hmark.trans hs, fun r hr => absurd hr (hresult r), fun _ => hmark⟩

/-! ### The kinds of result (R93) -/

/-- The kind of Ok value R93 gives each transaction. -/
def okKind (i : Instr) (v : Value) : Prop :=
  match i with
  | .imp | .imm | .zp0 | .zpx | .zpy | .abs | .abx | .aby | .ind | .izx | .izy | .rel | .hasXram => ∃ b, v = .bool b
  | .busRd _ | .prgRd _ | .chrRd _ => ∃ b, v = .byte b
  | .getMirr => ∃ m, v = .mirroring m
  | .busWr _ _ | .prgWr _ _ | .chrWr _ _ | .scanline | .load _ | .mapNew | .mapNewNull | .cbSet _ => v = .empty

/-- The four kinds of result, each with the transactions that return it. -/
theorem exec_result_cases {i : Instr} {s t : State} (h : exec i s = .next t) :
    (∃ v, t.result = some (.ok v) ∧ okKind i v) ∨ (∃ r, t.result = some (.refused r)) ∨
      (∃ e stream, t.result = some (.loadError e) ∧ i = .load stream) ∨
      (∃ e, t.result = some (.mapperError e) ∧ i = .mapNew) := by
  cases exec_effect h with
  | resolve c extra hi ha hx hy =>
    refine .inl ⟨.bool extra, rfl, ?_⟩
    fin_cases hi <;> exact ⟨extra, rfl⟩
  | busRead a => exact .inl ⟨_, rfl, _, rfl⟩
  | loadFails e hs hp => exact .inr (.inr (.inl ⟨e, _, rfl, rfl⟩))
  | loadRefused stream hs => exact .inr (.inl ⟨_, rfl⟩)
  | constructRefused r hi hs => exact .inr (.inl ⟨r, rfl⟩)
  | unsupported c hs hn => exact .inr (.inl ⟨_, rfl⟩)
  | noGraphics c e hs => exact .inr (.inr (.inr ⟨e, rfl, rfl⟩))
  | portRefused hs hi => exact .inr (.inl ⟨_, rfl⟩)
  | portRead a b hi hs =>
    refine .inl ⟨.byte b, rfl, ?_⟩
    rcases hi with rfl | rfl
    · exact ⟨b, rfl⟩
    · exact ⟨b, rfl⟩
  | portDegraded a k hi hs =>
    refine .inl ⟨.byte 0x00#8, rfl, ?_⟩
    rcases hi with rfl | rfl
    · exact ⟨_, rfl⟩
    · exact ⟨_, rfl⟩
  | portIgnored a d hi hs hc =>
    refine .inl ⟨.empty, rfl, ?_⟩
    rcases hi with rfl | rfl
    · rfl
    · rfl
  | mirroring m hs => exact .inl ⟨_, rfl, m, rfl⟩
  | extendedRam b hs => exact .inl ⟨_, rfl, b, rfl⟩
  | _ => exact .inl ⟨.empty, rfl, rfl⟩

/-- Settles O58: the four kinds exclude each other, and an Ok value has its transaction's kind. -/
theorem eachTransactionReturnsItsKindOfResult : Obligations.EachTransactionReturnsItsKindOfResult := by
  intro s t i h
  rcases exec_result_cases h with ⟨v, hr, hkind⟩ | ⟨r, hr⟩ | ⟨e, stream, hr, hi⟩ | ⟨e, hr, hi⟩
  · refine ⟨_, hr, nofun, nofun, fun v' hv => ?_⟩
    cases hv
    cases i <;> exact hkind
  · exact ⟨_, hr, nofun, nofun, nofun⟩
  · exact ⟨_, hr, fun _ _ => ⟨stream, hi⟩, nofun, nofun⟩
  · exact ⟨_, hr, nofun, fun _ _ => hi, nofun⟩

/-! ### The bus over a run (R254) -/

/-- A transaction that is no BUS_WR to an address leaves the byte there. -/
theorem exec_memRead_of_ne {i : Instr} {s t : State} {a : Word} (h : exec i s = .next t) (hwf : Memory.wf s.bus)
    (hi : ∀ d, i ≠ .busWr a d) : t.memRead a = s.memRead a := by
  rcases exec_bus h with hbus | ⟨b, v, rfl, hbus⟩
  · simp only [State.memRead, hbus]
  · have hne : a ≠ b := by
      rintro rfl
      exact hi v rfl
    have hwrite := State.memWrite_memRead hwf b a v
    rw [if_neg hne] at hwrite
    rw [← hwrite, State.memRead, State.memRead, hbus, State.memWrite_bus]

/-- A run without BUS_WR to an address leaves the byte there. -/
theorem runs_memRead {a : Word} : ∀ {between : List Instr} {s t : State}, Runs between s t → Memory.wf s.bus →
    (∀ i ∈ between, ∀ d, i ≠ .busWr a d) → t.memRead a = s.memRead a
  | [], _, _, hrun, _, _ => by rw [show _ = _ from hrun]
  | i :: rest, s, t, ⟨u, hexec, hrun⟩, hwf, hi => by
    obtain ⟨hhead, htail⟩ := List.forall_mem_cons.mp hi
    exact (runs_memRead hrun (exec_bus_wf hexec hwf) htail).trans (exec_memRead_of_ne hexec hwf hhead)

/-- Settles O15: BUS_WR puts the byte there, the run leaves it, BUS_RD answers it. -/
theorem busRoundTrip : Obligations.BusRoundTrip := by
  intro s t u a v between hwf hwrite hbetween hrun
  have hafter : t.memRead a = v := by
    rw [exec_busWr] at hwrite
    cases hwrite
    rw [State.ok_memRead, State.memWrite_memRead hwf, if_pos rfl]
  rw [exec_busRd, runs_memRead hrun (exec_bus_wf hwrite hwf) hbetween, hafter]
  rfl

end Sys2Proof.Machine

/-! ## The addressing modes with an index, a pointer or an offset (45_addressing_modes.md R269 to R275) -/

namespace Sys2Proof.Machine

/-! ### The forms of an address as numbers -/

/-- Masking with `k` low ones is the remainder. -/
theorem toNat_and_lowMask {w : Nat} (x mask : BitVec w) (k : Nat) (hmask : mask.toNat = 2 ^ k - 1) :
    (x &&& mask).toNat = x.toNat % 2 ^ k := by
  rw [BitVec.toNat_and, hmask, Nat.and_two_pow_sub_one_eq_mod]

/-- Masking with all ones but the `k` low ones puts the low digit to zero. -/
theorem toNat_and_highMask {w : Nat} (x mask : BitVec w) (k : Nat) (hmask : mask = BitVec.allOnes w <<< k) :
    (x &&& mask).toNat = x.toNat / 2 ^ k * 2 ^ k := by
  have hlt : x.toNat / 2 ^ k * 2 ^ k < 2 ^ w := Nat.lt_of_le_of_lt (Nat.div_mul_le_self _ _) x.isLt
  rw [hmask, ← BitVec.shiftLeft_ushiftRight, BitVec.toNat_shiftLeft, BitVec.toNat_ushiftRight,
    Nat.shiftLeft_eq, Nat.shiftRight_eq_div_pow, Nat.mod_eq_of_lt hlt]

/-- An indexed address is the sum modulo 65536 (R269, R271). -/
theorem indexed_pair_eq_ofNat (hi lo i : Byte) :
    indexed (pair hi lo) i = BitVec.ofNat 16 (hi.toNat * 256 + lo.toNat + i.toNat) := by
  apply BitVec.eq_of_toNat_eq
  rw [indexed, BitVec.toNat_add, pair_toNat, BitVec.toNat_setWidth, BitVec.toNat_ofNat]
  omega

/-- The high byte of a zero-page pointer is read one address on, modulo 256 (D25, D26). -/
theorem zeroPageNext_eq_ofNat_mod (b i : Byte) :
    zeroPageNext b i = BitVec.ofNat 16 ((b.toNat + i.toNat + 1) % 256) := by
  apply BitVec.eq_of_toNat_eq
  have hone : (1 : Word).toNat = 1 := rfl
  rw [zeroPageNext, toNat_and_lowMask _ 0x00FF#16 8 rfl, BitVec.toNat_add, BitVec.toNat_add, BitVec.toNat_setWidth,
    BitVec.toNat_setWidth, BitVec.toNat_ofNat, hone]
  omega

/-- The page a high byte names, as a number. -/
theorem pageOf_toNat (hi : Byte) : (hi.setWidth 16 <<< 8 : Word).toNat = hi.toNat * 256 := by
  rw [BitVec.toNat_shiftLeft, BitVec.toNat_setWidth, Nat.shiftLeft_eq]
  omega

/-- PageCross of an indexed address is the carry of its low byte (R270). -/
theorem pageCross_indexed (hi lo i : Byte) :
    pageCross (indexed (pair hi lo) i) hi = decide (256 ≤ lo.toNat + i.toNat) := by
  have hne : indexed (pair hi lo) i &&& 0xFF00#16 ≠ hi.setWidth 16 <<< 8 ↔ 256 ≤ lo.toNat + i.toNat := by
    rw [ne_eq, ← BitVec.toNat_inj, toNat_and_highMask _ 0xFF00#16 8 (by decide), pageOf_toNat,
      indexed_pair_eq_ofNat, BitVec.toNat_ofNat]
    omega
  rw [pageCross, Bool.eq_iff_iff, bne_iff_ne, decide_eq_true_iff]
  exact hne

/-- An Indirect pointer with low byte 0xFF finds its high byte at the start of its own page, every other one at
the next address (R272). -/
theorem indirectHigh_eq (phi plo : Byte) :
    indirectHigh phi plo =
      if plo.toNat = 255 then phi ++ 0x00#8 else BitVec.ofNat 16 (phi.toNat * 256 + plo.toNat + 1) := by
  have hwrap : plo = 0xFF#8 ↔ plo.toNat = 255 := BitVec.toNat_inj.symm
  simp only [indirectHigh, hwrap]
  split
  · rw [← pair_eq_append]
    apply BitVec.eq_of_toNat_eq
    rw [toNat_and_highMask _ 0xFF00#16 8 (by decide), pair_toNat, pair_toNat, BitVec.toNat_ofNat]
    omega
  · apply BitVec.eq_of_toNat_eq
    rw [BitVec.toNat_add, pair_toNat, BitVec.toNat_ofNat]
    rfl

/-- OR-ing 0xFF00 for a set bit 7 is the sign extension (R111), for each of the 256 bytes. -/
theorem relative_eq_signExtend : ∀ b : Byte, relative b = b.signExtend 16 := by decide

/-! ### The next state of each mode, in the operations of its rule -/

section Modes

variable (s : State)

/-- ABX and ABY at any index (R269, R271). -/
theorem resolveIndexed_eq (i : Byte) :
    resolveIndexed i s =
      (((s.setPc (s.cpu.pc + 2)).setAbsoluteAddress
        (indexed (pair (s.memRead (s.cpu.pc + 1)) (s.memRead s.cpu.pc)) i)).resolved
        (pageCross (indexed (pair (s.memRead (s.cpu.pc + 1)) (s.memRead s.cpu.pc)) i)
          (s.memRead (s.cpu.pc + 1)))) := by
  rw [resolveIndexed, fetch16_eq]

/-- ABS (R268). -/
theorem exec_abs :
    exec .abs s = .next (((s.setPc (s.cpu.pc + 2)).setAbsoluteAddress
      (pair (s.memRead (s.cpu.pc + 1)) (s.memRead s.cpu.pc))).resolved false) := by
  change execAbs s = _
  rw [execAbs, fetch16_eq]

/-- IND (R272). -/
theorem exec_ind :
    exec .ind s = .next (((s.setPc (s.cpu.pc + 2)).setAbsoluteAddress
      (pair (s.memRead (indirectHigh (s.memRead (s.cpu.pc + 1)) (s.memRead s.cpu.pc)))
        (s.memRead (pair (s.memRead (s.cpu.pc + 1)) (s.memRead s.cpu.pc))))).resolved false) := by
  change execInd s = _
  rw [execInd, fetch16_eq]
  rfl

/-- IZX (R273). -/
theorem exec_izx :
    exec .izx s = .next (((s.setPc (s.cpu.pc + 1)).setAbsoluteAddress
      (pair (s.memRead (zeroPageNext (s.memRead s.cpu.pc) s.cpu.x))
        (s.memRead (zeroPage (s.memRead s.cpu.pc) s.cpu.x)))).resolved false) := rfl

/-- The pointer IZY reads in page zero (R274). -/
def izyPointer : Byte × Byte :=
  (s.memRead (zeroPageNext (s.memRead s.cpu.pc) 0x00#8), s.memRead (zeroPage (s.memRead s.cpu.pc) 0x00#8))

/-- IZY (R274). -/
theorem exec_izy :
    exec .izy s = .next (((s.setPc (s.cpu.pc + 1)).setAbsoluteAddress
      (indexed (pair (izyPointer s).1 (izyPointer s).2) s.cpu.y)).resolved
      (pageCross (indexed (pair (izyPointer s).1 (izyPointer s).2) s.cpu.y) (izyPointer s).1)) := rfl

/-- REL (R275). -/
theorem exec_rel :
    exec .rel s = .next (((s.setPc (s.cpu.pc + 1)).setRelativeOffset
      (relative (s.memRead s.cpu.pc))).resolved false) := rfl

end Modes

/-- Settles O21: the carry is what PageCross computes. -/
theorem pageCrossIsTheCarryOfTheLowByte : Obligations.PageCrossIsTheCarryOfTheLowByte := by
  intro hi lo i
  rw [pageCross_indexed, decide_eq_true_iff]

/-- Settles O20: the two modes are one rule at two indices. -/
theorem absoluteIndexedAddsAndReportsThePageCross :
    Obligations.AbsoluteIndexedAddsAndReportsThePageCross := by
  refine ⟨fun addr data stream => ⟨?_, ?_⟩, fun s i index hmode => ?_⟩
  · exact decode_of_resolveUnit (by decide) rfl
  · exact decode_of_resolveUnit (by decide) rfl
  · have hexec : exec i s = .next (resolveIndexed index s) := by
      simp only [List.mem_cons, List.not_mem_nil, or_false, Prod.mk.injEq] at hmode
      obtain ⟨rfl, rfl⟩ | ⟨rfl, rfl⟩ := hmode
      · rfl
      · rfl
    rw [hexec, resolveIndexed_eq, pageCross_indexed, indexed_pair_eq_ofNat]
    rfl

/-- Settles O22: the pointer's two reads, the second at the wrapped address. -/
theorem indirectReproducesThePageWrapBug : Obligations.IndirectReproducesThePageWrapBug := by
  rintro s plo phi rfl rfl
  rw [exec_ind, indirectHigh_eq, pair_eq_append, pair_eq_append]
  rfl

/-- Settles O23: both pointer addresses are remainders modulo 256. -/
theorem indirectXReadsAPointerInPageZero : Obligations.IndirectXReadsAPointerInPageZero := by
  rintro s t rfl
  rw [exec_izx, zeroPageNext_eq_ofNat_mod, zeroPage_eq_ofNat_mod, pair_eq_append]
  rfl

/-- Settles O24: the pointer's bytes are the two the statement names, and Y is added as an index. -/
theorem indirectYIndexesThePointerItReads : Obligations.IndirectYIndexesThePointerItReads := by
  intro s t lo hi ht hlo hhi
  have hpointer : izyPointer s = (hi, lo) := by
    have hlow : t.toNat % 256 = t.toNat := Nat.mod_eq_of_lt t.isLt
    simp only [izyPointer, ← ht, zeroPageNext_eq_ofNat_mod, zeroPage_eq_ofNat_mod, BitVec.toNat_ofNat,
      Nat.zero_mod, Nat.add_zero, hlow, ← hlo, ← hhi]
  rw [exec_izy, hpointer, pageCross_indexed, indexed_pair_eq_ofNat]
  rfl

/-- Settles O25: one operand byte, sign-extended. -/
theorem relativeSignExtendsTheOffset : Obligations.RelativeSignExtendsTheOffset := by
  intro s
  rw [exec_rel, relative_eq_signExtend]
  rfl

end Sys2Proof.Machine

/-! ## The loader and the construction of a mapper (40_cartridge_loader.md R130 to R147, 41_mapper_base_nrom.md
R161 to R165) -/

namespace Sys2Proof.Machine

/-! ### LOAD in each case -/

section Load

variable {s : State} {stream : List Byte}

/-- LOAD of a stream that passes every check (R131, R145). -/
theorem exec_load_ok {c : Cartridge} (hs : s.stack = .empty) (hp : parseImage s.alloc stream = .ok c) :
    exec (.load stream) s = .next ((s.setStack (.loaded c)).ok .empty) := by
  simp only [exec, execLoad, hs, hp]

/-- LOAD of a stream that fails a check (R131, R145). -/
theorem exec_load_error {e : LoadError} (hs : s.stack = .empty) (hp : parseImage s.alloc stream = .error e) :
    exec (.load stream) s = .next (s.raiseLoad e) := by
  simp only [exec, execLoad, hs, hp]

/-- LOAD after a cartridge is loaded (R144). -/
theorem exec_load_refused (hs : s.phase ≠ .empty) : exec (.load stream) s = .next (s.refuse .loadNotEmpty) := by
  cases hk : s.stack with
  | empty => exact absurd (phase_empty hk) hs
  | loaded c => simp only [exec, execLoad, hk]
  | mapped c m => simp only [exec, execLoad, hk]

/-- In phase Empty the stack is empty. -/
theorem stack_of_phase_empty (hs : s.phase = .empty) : s.stack = .empty := by
  cases hk : s.stack with
  | empty => rfl
  | loaded c => simp [phase_loaded hk] at hs
  | mapped c m => simp [phase_mapped hk] at hs

end Load

/-! ### The checks of an image (R131) -/

/-- A bit of a byte is a digit of its binary form. -/
theorem getLsbD_eq_decide (b : Byte) (n : Nat) : b.getLsbD n = decide (b.toNat / 2 ^ n % 2 = 1) :=
  Nat.testBit_eq_decide_div_mod_eq

section Parse

variable {alloc : AllocAnswers} {stream : List Byte}

theorem parseImage_truncatedHeader (hn : stream.length < headerSize) :
    parseImage alloc stream = .error .truncatedHeader := by
  rw [parseImage, if_pos hn]

variable (hn : ¬ stream.length < headerSize)
include hn

theorem parseImage_trainer (ht : (headerByte stream 6).getLsbD 2 = true) :
    parseImage alloc stream = .error .trainerUnsupported := by
  rw [parseImage, if_neg hn, if_pos ht]

variable (ht : ¬ (headerByte stream 6).getLsbD 2 = true)
include ht

theorem parseImage_noPrgBanks (h4 : headerByte stream 4 = 0x00#8) :
    parseImage alloc stream = .error .noPrgBanks := by
  rw [parseImage, if_neg hn, if_neg ht, if_pos h4]

variable (h4 : headerByte stream 4 ≠ 0x00#8)
include h4

theorem parseImage_prgDenied (hp : alloc.prg = false) : parseImage alloc stream = .error .allocationFailure := by
  rw [parseImage, if_neg hn, if_neg ht, if_neg h4, if_pos hp]

variable (hp : alloc.prg = true)
include hp

/-- With the header accepted and the PRG body granted, the bodies are what is left to check. -/
theorem parseImage_bodies : parseImage alloc stream =
    if stream.length < headerSize + prgBodySize stream then .error .truncatedPrg
    else if chrBodySize stream = 0 then .ok (cartridgeOf stream)
    else if alloc.chr = false then .error .allocationFailure
    else if stream.length < headerSize + prgBodySize stream + chrBodySize stream then .error .truncatedChr
    else .ok (cartridgeOf stream) := by
  rw [parseImage, if_neg hn, if_neg ht, if_neg h4, if_neg (by simp [hp])]

/-- An image with both bodies whole, each granted, parses. -/
theorem parseImage_complete (hlen : headerSize + prgBodySize stream + chrBodySize stream ≤ stream.length)
    (hc : headerByte stream 5 ≠ 0x00#8 → alloc.chr = true) : parseImage alloc stream = .ok (cartridgeOf stream) := by
  rw [parseImage_bodies hn ht h4 hp, if_neg (by omega)]
  by_cases h5 : chrBodySize stream = 0
  · rw [if_pos h5]
  · have hgranted : alloc.chr = true := hc fun hzero => h5 (by simp [chrBodySize, hzero])
    rw [if_neg h5, if_neg (by simp [hgranted]), if_neg (by omega)]

end Parse

/-- Settles O29: the checks in their order, each with the conditions under which it is the first to fail. -/
theorem loadReportsTheFirstFailingCheck : Obligations.LoadReportsTheFirstFailingCheck := by
  intro s stream e hs hcheck
  have hparse : parseImage s.alloc stream = .error e := by
    have htrainer : (headerByte stream 6).getLsbD 2 = true ↔ (headerByte stream 6).toNat / 4 % 2 = 1 := by
      rw [getLsbD_eq_decide, decide_eq_true_iff]
      exact Iff.rfl
    have hbanks : headerByte stream 4 = 0x00#8 ↔ (headerByte stream 4).toNat = 0 := BitVec.toNat_inj.symm
    have hprg : prgBodySize stream = (headerByte stream 4).toNat * 0x4000 := rfl
    have hchr : chrBodySize stream = (headerByte stream 5).toNat * 0x2000 := rfl
    have hheader : headerSize = 16 := rfl
    have hfold (n : Nat) : stream.getD n 0x00#8 = headerByte stream n := rfl
    simp only [hfold] at hcheck
    have hbodies (hn : 16 ≤ stream.length) (ht : (headerByte stream 6).toNat / 4 % 2 = 0)
        (h4 : (headerByte stream 4).toNat ≠ 0) (hp : s.alloc.prg = true) :=
      parseImage_bodies (alloc := s.alloc) (by omega) (mt htrainer.mp (by omega)) (mt hbanks.mp h4) hp
    rcases hcheck with ⟨hn, rfl⟩ | ⟨hn, ht, rfl⟩ | ⟨hn, ht, h4, rfl⟩ | ⟨hn, ht, h4, hp, rfl⟩ |
      ⟨hn, ht, h4, hp, hlen, rfl⟩ | ⟨ht, h4, hp, hlen, h5, hc, rfl⟩ | ⟨ht, h4, hp, hlen, h5, hc, hshort, rfl⟩
    · exact parseImage_truncatedHeader hn
    · exact parseImage_trainer (by omega) (htrainer.mpr ht)
    · exact parseImage_noPrgBanks (by omega) (mt htrainer.mp (by omega)) (hbanks.mpr h4)
    · exact parseImage_prgDenied (by omega) (mt htrainer.mp (by omega)) (mt hbanks.mp h4) hp
    · rw [hbodies hn ht h4 hp, if_pos (by omega)]
    · rw [hbodies (by omega) ht h4 hp, if_neg (by omega), if_neg (by omega), if_pos hc]
    · rw [hbodies (by omega) ht h4 hp, if_neg (by omega), if_neg (by omega), if_neg (by simp [hc]),
        if_pos (by omega)]
  rw [exec_load_error hs hparse]
  rfl


/-! ### The cartridge of a complete image (R131, R136 to R143) -/

/-- A header byte of an image is the header's own. -/
theorem headerByte_append {header : List Byte} {n : Nat} {b : Byte} (h : header[n]? = some b) (rest : List Byte) :
    headerByte (header ++ rest) n = b := by
  obtain ⟨hn, -⟩ := List.getElem?_eq_some_iff.mp h
  rw [headerByte, List.getD_eq_getElem?_getD, List.getElem?_append_left hn, h, Option.getD_some]

/-- The mapper number is the high digit of byte 7 over the high digit of byte 6 (R140). -/
theorem mapperNumberOf_eq_ofNat (h6 h7 : Byte) :
    mapperNumberOf h6 h7 = BitVec.ofNat 8 (h7.toNat / 16 * 16 + h6.toNat / 16) := by
  have hlow : ((h6 >>> 4) &&& 0x0F#8).toNat = h6.toNat / 16 := by
    rw [toNat_and_lowMask _ 0x0F#8 4 rfl, BitVec.toNat_ushiftRight, Nat.shiftRight_eq_div_pow]
    omega
  have hhigh : (h7 &&& 0xF0#8).toNat = (h7.toNat / 16) <<< 4 := by
    rw [toNat_and_highMask _ 0xF0#8 4 (by decide), Nat.shiftLeft_eq]
    rfl
  apply BitVec.eq_of_toNat_eq
  rw [mapperNumberOf, BitVec.toNat_or, hlow, hhigh, Nat.or_comm,
    ← Nat.shiftLeft_add_eq_or_of_lt (show h6.toNat / 16 < 2 ^ 4 by omega), Nat.shiftLeft_eq, BitVec.toNat_ofNat]
  omega

/-- The mirroring as digits of byte 6 (R141). -/
theorem mirroringOf_eq (h6 : Byte) :
    mirroringOf h6 = if h6.toNat / 8 % 2 = 1 then .fourScreen
      else if h6.toNat % 2 = 1 then .vertical else .horizontal := by
  simp only [mirroringOf, getLsbD_eq_decide, decide_eq_true_iff, Nat.pow_zero, Nat.div_one]
  rfl

/-- The bodies of an image are its PRG and CHR parts, whatever follows them. -/
theorem cartridgeOf_bodies {header prg chr rest stream : List Byte} (hstream : header ++ prg ++ chr ++ rest = stream)
    (hheader : header.length = headerSize) (hprg : prg.length = prgBodySize stream)
    (hchr : chr.length = chrBodySize stream) :
    (cartridgeOf stream).prg = prg ∧ (cartridgeOf stream).chr = chr := by
  constructor
  · change (stream.drop headerSize).take (prgBodySize stream) = prg
    rw [← hprg, ← hheader, ← hstream, List.append_assoc, List.append_assoc, List.drop_left, List.take_left]
  · change (stream.drop (headerSize + prgBodySize stream)).take (chrBodySize stream) = chr
    rw [← hprg, ← hchr, ← hheader, ← List.length_append, ← hstream, List.append_assoc, List.drop_left,
      List.take_left]

/-- Settles O28: the image passes every check, and the cartridge it gives has the fields the statement names. -/
theorem loadBuildsTheCartridge : Obligations.LoadBuildsTheCartridge := by
  intro s header prg chr rest h4 h5 h6 h7 h9 h10 hs hheader e4 e5 e6 e7 e9 e10 htrainer hbanks hprg hchr hp hc
  generalize hstream : header ++ prg ++ chr ++ rest = stream
  have hbyte {n : Nat} {b : Byte} (h : header[n]? = some b) : headerByte stream n = b := by
    rw [← hstream, List.append_assoc, List.append_assoc]
    exact headerByte_append h _
  have hprgSize : prg.length = prgBodySize stream := by rw [prgBodySize, hbyte e4, hprg]
  have hchrSize : chr.length = chrBodySize stream := by rw [chrBodySize, hbyte e5, hchr]
  have hlength : stream.length = headerSize + prg.length + chr.length + rest.length := by
    simp only [← hstream, List.length_append, hheader]
  have hparse : parseImage s.alloc stream = .ok (cartridgeOf stream) := by
    refine parseImage_complete (by omega) ?_ ?_ hp (by omega) ?_
    · rw [hbyte e6, htrainer]
      decide
    · rwa [hbyte e4]
    · rwa [hbyte e5]
  have hcart : cartridgeOf stream =
      { prg := prg, chr := chr, prgBankCount := h4, chrBankCount := h5
        mapperNumber := BitVec.ofNat 8 (h7.toNat / 16 * 16 + h6.toNat / 16)
        nameTableMirroring :=
          if h6.toNat / 8 % 2 = 1 then .fourScreen else if h6.toNat % 2 = 1 then .vertical else .horizontal
        hasExtendedRAM := h6.toNat / 2 % 2 = 1, tvFlags9 := h9, tvFlags10 := h10 } := by
    obtain ⟨hprgBody, hchrBody⟩ := cartridgeOf_bodies hstream hheader hprgSize hchrSize
    have hxram : h6.getLsbD 1 = decide (h6.toNat / 2 % 2 = 1) := getLsbD_eq_decide h6 1
    rw [← mapperNumberOf_eq_ofNat, ← mirroringOf_eq, ← hxram, ← hbyte e4, ← hbyte e5, ← hbyte e6, ← hbyte e7,
      ← hbyte e9, ← hbyte e10, ← hprgBody, ← hchrBody]
    rfl
  rw [exec_load_ok hs hparse, hcart]
  rfl

/-- Settles O30: outside phase Empty the stream is not looked at. -/
theorem loadIsRefusedUnlessEmpty : Obligations.LoadIsRefusedUnlessEmpty :=
  fun _ _ hs => exec_load_refused hs

/-- Settles O31: a LoadError comes from a failed check in phase Empty alone. -/
theorem failedLoadLeavesNothing : Obligations.FailedLoadLeavesNothing := by
  intro s t stream e h hresult
  by_cases hs : s.phase = .empty
  · have hstack := stack_of_phase_empty hs
    cases hp : parseImage s.alloc stream with
    | error e' =>
      rw [exec_load_error hstack hp] at h
      cases h
      cases hresult
      exact ⟨rfl, cart_empty hstack, hs⟩
    | ok c =>
      rw [exec_load_ok hstack hp] at h
      cases h
      cases hresult
  · rw [exec_load_refused hs] at h
    cases h
    cases hresult

/-! ### MAP_NEW, MAP_NEW_NULL and CB_SET (R161 to R165, R179, R190, R220) -/

section Construct

variable {s : State} {c : Cartridge}

/-- MAP_NEW over a loaded cartridge is the construction step (R161). -/
theorem exec_mapNew_loaded (hs : s.stack = .loaded c) : exec .mapNew s = .next (buildMapper c s) :=
  congrArg Host.Outcome.next (construct_loaded hs buildMapper)

/-- MAP_NEW_NULL over a loaded cartridge builds the Null variant (R164). -/
theorem exec_mapNewNull_loaded (hs : s.stack = .loaded c) :
    exec .mapNewNull s = .next (s.enterMapped c .null) :=
  congrArg Host.Outcome.next (construct_loaded hs _)

/-- A construction without a cartridge is refused (R165). -/
theorem construct_of_phase_empty (hs : s.phase = .empty) (build : Cartridge → State → State) :
    construct build s = s.refuse .noCartridge := by
  simp only [construct, stack_of_phase_empty hs]

/-- A construction over an active mapper is refused (R165). -/
theorem construct_of_phase_mapped (hs : s.phase = .mapped) (build : Cartridge → State → State) :
    construct build s = s.refuse .mapperActive := by
  cases hk : s.stack with
  | empty => simp [phase_empty hk] at hs
  | loaded c => simp [phase_loaded hk] at hs
  | mapped c m => simp only [construct, hk]

/-- MAP_NEW over mapper number 7 when AxROM's construction succeeds (R190). -/
theorem buildMapper_axrom_ok {m : Mapper} (hn : selectVariant c.mapperNumber = some .axrom)
    (hm : constructAxrom s.alloc c = .ok m) : buildMapper c s = s.enterMapped c m := by
  simp only [buildMapper, hn, hm]

/-- MAP_NEW over mapper number 7 when AxROM's construction fails (R191). -/
theorem buildMapper_axrom_error {e : MapperError} (hn : selectVariant c.mapperNumber = some .axrom)
    (hm : constructAxrom s.alloc c = .error e) : buildMapper c s = s.raiseMapper e := by
  simp only [buildMapper, hn, hm]

end Construct

/-- One bank, as a comparison of bytes and of numbers (R42). -/
theorem singleBank_eq_decide (banks : Byte) : (banks == 1#8) = decide (banks.toNat = 1) := by
  rw [Bool.eq_iff_iff, beq_iff_eq, decide_eq_true_iff]
  exact BitVec.toNat_inj.symm

/-- Settles O32: the mapper number selects the variant, and CNROM's construction allocates nothing. -/
theorem mapNewSelectsTheVariant : Obligations.MapNewSelectsTheVariant := by
  intro s c hs
  have hnumber (n : Byte) : c.mapperNumber = n ↔ c.mapperNumber.toNat = n.toNat := BitVec.toNat_inj.symm
  rw [exec_mapNew_loaded hs]
  refine ⟨fun h0 => ?nrom, fun h3 => ?cnrom, fun hn => ?unsupported⟩
  case nrom =>
    have hselect : selectVariant c.mapperNumber = some .nrom := by
      simp [selectVariant, hnumber, h0]
    rw [buildMapper, hselect]
    rfl
  case cnrom =>
    have hselect : selectVariant c.mapperNumber = some .cnrom := by
      simp [selectVariant, hnumber, h3]
    rw [buildMapper, hselect, ← singleBank_eq_decide]
    rfl
  case unsupported =>
    simp only [List.mem_cons, List.not_mem_nil, or_false, not_or] at hn
    have hselect : selectVariant c.mapperNumber = none := by
      simp [selectVariant, hnumber, hn]
    rw [buildMapper, hselect]
    rfl

/-- Settles O33: the three cases of AxROM's construction. -/
theorem mapNewConstructsAxrom : Obligations.MapNewConstructsAxrom := by
  intro s c hs h7
  have hnumber : c.mapperNumber = 7#8 := BitVec.eq_of_toNat_eq h7
  have hselect : selectVariant c.mapperNumber = some .axrom := by rw [hnumber]; rfl
  rw [exec_mapNew_loaded hs]
  refine ⟨fun hchr => ?rom, fun hchr hgranted => ?ram, fun hchr hdenied => ?denied⟩
  case rom =>
    rw [buildMapper_axrom_ok hselect (by rw [constructAxrom, if_neg (by simpa using hchr)])]
    rfl
  case ram =>
    refine ⟨(List.range axromChrRamSize).map Config.chrRamInit, by simp, fun i hi => by simp [hi], ?_⟩
    rw [buildMapper_axrom_ok hselect (by rw [constructAxrom, if_pos (by simp [hchr]), if_pos hgranted])]
    rfl
  case denied =>
    rw [buildMapper_axrom_error hselect
      (by rw [constructAxrom, if_pos (by simp [hchr]), if_neg (by simp [hdenied])])]
    rfl

/-- Settles O34: the mapper number plays no part. -/
theorem mapNewNullConstructsTheNullVariant : Obligations.MapNewNullConstructsTheNullVariant :=
  fun _ _ hs => exec_mapNewNull_loaded hs

/-- Settles O35: both constructions share one phase check. -/
theorem constructionIsRefusedOutsideLoaded : Obligations.ConstructionIsRefusedOutsideLoaded := by
  intro s i hi
  obtain ⟨build, hexec⟩ : ∃ build, exec i s = .next (construct build s) := by
    rcases hi with rfl | rfl
    · exact ⟨_, rfl⟩
    · exact ⟨_, rfl⟩
  rw [hexec]
  exact ⟨fun hs => congrArg _ (construct_of_phase_empty hs build),
    fun hs => congrArg _ (construct_of_phase_mapped hs build)⟩

/-- Settles O36: bit 0 of the data is its remainder modulo 2. -/
theorem cbSetFollowsBitZero : Obligations.CbSetFollowsBitZero := by
  intro s d
  have hbit : d.getLsbD 0 = decide (d.toNat % 2 = 1) := by
    rw [getLsbD_eq_decide, Nat.pow_zero, Nat.div_one]
  rw [← hbit]
  rfl

end Sys2Proof.Machine

/-! ## The mapper ports: reads, AxROM's writes and the refusals (41_mapper_base_nrom.md, 42_mapper_axrom.md,
43_mapper_cnrom.md) -/

namespace Sys2Proof.Machine

/-! ### A port in phase Mapped is its variant's own rule (R160) -/

section Ports

variable {s : State} {c : Cartridge} {m : Mapper} (h : s.stack = .mapped c m)

include h

theorem exec_prgRd_mapped (a : Word) : exec (.prgRd a) s = .next (portPrgRd a c m s) :=
  congrArg Host.Outcome.next (mapperPort_mapped h (portPrgRd a))

theorem exec_chrRd_mapped (a : Word) : exec (.chrRd a) s = .next (portChrRd a c m s) :=
  congrArg Host.Outcome.next (mapperPort_mapped h (portChrRd a))

theorem exec_getMirr_mapped : exec .getMirr s = .next (portGetMirr c m s) :=
  congrArg Host.Outcome.next (mapperPort_mapped h portGetMirr)

theorem exec_hasXram_mapped : exec .hasXram s = .next (s.ok (.bool c.hasExtendedRAM)) :=
  congrArg Host.Outcome.next (mapperPort_mapped h portHasXram)

theorem exec_scanline_mapped : exec .scanline s = .next (s.ok .empty) :=
  congrArg Host.Outcome.next (mapperPort_mapped h portScanline)

end Ports

/-! ### Reads of the physical arrays (R180, R304) -/

/-- A byte the array has is returned. -/
theorem State.readArray_of_some {bytes : List Byte} {n : Nat} {b : Byte} (h : bytes[n]? = some b) (s : State)
    (k : LogKind) : s.readArray bytes n k = s.ok (.byte b) := by
  simp only [State.readArray, h]

/-- CHR_RD of a CHR ROM degrades when there is none, and is otherwise a read of the array (R175, R222, R223). -/
theorem exec_chrRd_rom {s : State} {c : Cartridge} {m : Mapper} {a : Word} {n : Nat} (h : s.stack = .mapped c m)
    (hport : portChrRd a c m s =
      if c.chr.length = 0 then s.degradedRead .noChrRom else s.readArray c.chr n .chrRomOutOfRange) :
    (∀ b, c.chr[n]? = some b → exec (.chrRd a) s = .next (s.ok (.byte b))) ∧
      (c.chr.length ≤ n → c.chr ≠ [] → exec (.chrRd a) s = .next (s.degradedRead .chrRomOutOfRange)) ∧
      (c.chr = [] → exec (.chrRd a) s = .next (s.degradedRead .noChrRom)) := by
  rw [exec_chrRd_mapped h, hport]
  refine ⟨fun b hb => ?_, fun hpast hne => ?_, fun hnone => ?_⟩
  · obtain ⟨hn, -⟩ := List.getElem?_eq_some_iff.mp hb
    rw [if_neg (by omega), State.readArray_of_some hb]
  · rw [if_neg (by simpa using hne), State.readArray_of_le _ _ _ _ hpast]
  · rw [if_pos (by simp [hnone])]

/-! ### The translations as numbers -/

/-- The fixed translation (R174, R221). -/
theorem fixedPrgIndex_eq (single : Bool) (a : Word) :
    fixedPrgIndex single a =
      if single then (a.toNat + 0x8000) % 65536 % 0x4000 else (a.toNat + 0x8000) % 65536 := by
  have hsub : (a - 0x8000#16).toNat = (a.toNat + 0x8000) % 65536 := by
    rw [BitVec.toNat_sub, Nat.add_comm]
    rfl
  rw [fixedPrgIndex, toNat_and_lowMask _ 0x3FFF#16 14 rfl, hsub]
  rfl

/-- AxROM's translation (R192). -/
theorem axromPrgIndex_eq (bank : BitVec 3) (a : Word) :
    axromPrgIndex bank a = bank.toNat * 0x8000 + a.toNat % 0x8000 := by
  rw [axromPrgIndex, toNat_and_lowMask _ 0x7FFF#16 15 rfl]
  rfl

/-- CNROM's translation (R222). -/
theorem cnromChrIndex_toNat (bank : BitVec 2) (a : Word) :
    (cnromChrIndex bank a).toNat = a.toNat ||| bank.toNat * 8192 := by
  have hbank : (bank.setWidth 16 <<< 13 : Word).toNat = bank.toNat * 8192 := by
    rw [BitVec.toNat_shiftLeft, BitVec.toNat_setWidth, Nat.shiftLeft_eq]
    omega
  rw [cnromChrIndex, BitVec.toNat_or, hbank]

/-- Bit 4 of the data selects AxROM's mode (R103). -/
theorem oneScreenOf_eq (d : Byte) : oneScreenOf d = if d.toNat / 16 % 2 = 1 then .higher else .lower := by
  simp only [oneScreenOf, getLsbD_eq_decide, decide_eq_true_iff]
  rfl

/-! ### Refusals, the Null variant and the forwarded values -/

/-- Settles O37: the seven ports share one phase check. -/
theorem portsAreRefusedWithoutAMapper : Obligations.PortsAreRefusedWithoutAMapper := by
  intro s a d i hs hi
  have hrefused (port : Cartridge → Mapper → State → State) : mapperPort port s = s.refuse .noMapper :=
    mapperPort_unmapped hs port
  fin_cases hi <;> exact congrArg Host.Outcome.next (hrefused _)

/-- Settles O38: each of the four is the Null variant's own rule. -/
theorem nullReadsZeroAndIgnoresWrites : Obligations.NullReadsZeroAndIgnoresWrites :=
  fun _ _ a d h =>
    ⟨exec_prgRd_mapped h a, exec_chrRd_mapped h a, exec_prgWr_mapped h a d, exec_chrWr_mapped h a d⟩

/-- Settles O49: every variant but AxROM answers with the cartridge's field. -/
theorem getMirrForwardsExceptAxrom : Obligations.GetMirrForwardsExceptAxrom := by
  intro s c m h
  rw [exec_getMirr_mapped h]
  constructor
  · intro hkind
    cases m with
    | axrom a => exact absurd rfl hkind
    | _ => rfl
  · rintro ⟨bank, ram, mode⟩ rfl
    cases mode <;> rfl

/-- Settles O50: both ports are the base's, for every variant. -/
theorem hasXramForwardsAndScanlineIsANoOp : Obligations.HasXramForwardsAndScanlineIsANoOp :=
  fun _ _ _ h => ⟨exec_hasXram_mapped h, exec_scanline_mapped h⟩

/-! ### PRG reads -/

/-- PRG_RD through an index: the byte there, or the degraded zero. -/
theorem exec_prgRd_of_index {s : State} {c : Cartridge} {m : Mapper} {a : Word} {n : Nat}
    (h : s.stack = .mapped c m) (hport : portPrgRd a c m s = s.prgAt c n) :
    (∀ b, c.prg[n]? = some b → exec (.prgRd a) s = .next (s.ok (.byte b))) ∧
      (c.prg[n]? = none → exec (.prgRd a) s = .next (s.degradedRead .prgOutOfRange)) := by
  rw [exec_prgRd_mapped h, hport, State.prgAt]
  exact ⟨fun b hb => by rw [State.readArray_of_some hb],
    fun hnone => by rw [State.readArray_of_le _ _ _ _ (List.getElem?_eq_none_iff.mp hnone)]⟩

/-- Settles O39: NROM and CNROM share the translation; only where the single-bank flag stands differs. -/
theorem fixedPrgTranslation : Obligations.FixedPrgTranslation := by
  intro s c m single a off h hsingle hoff
  have hport : portPrgRd a c m s = s.prgAt c off := by
    rw [hoff, ← fixedPrgIndex_eq]
    obtain ⟨rfl, rfl⟩ | ⟨n, rfl, rfl⟩ := hsingle
    · rw [← singleBank_eq_decide]
      rfl
    · rfl
  obtain ⟨hsome, hnone⟩ := exec_prgRd_of_index h hport
  cases hb : c.prg[off]? with
  | some b => exact hsome b hb
  | none => exact hnone hb

/-- Settles O41: AxROM's index is the window's start plus the low 15 bits of the address. -/
theorem axromPrgReadIsTheSelectedWindow : Obligations.AxromPrgReadIsTheSelectedWindow := by
  intro s c m a h
  obtain ⟨hsome, hnone⟩ := exec_prgRd_of_index (a := a) h rfl
  rw [axromPrgIndex_eq] at hsome hnone
  cases hb : c.prg[m.selectedPrgBank.toNat * 0x8000 + a.toNat % 0x8000]? with
  | some b => exact hsome b hb
  | none => exact hnone hb

/-! ### CHR reads and writes -/

/-- CNROM's CHR read (R222, R223). -/
theorem portChrRd_cnrom (c : Cartridge) (m : CnromState) (a : Word) (s : State) :
    portChrRd a c (.cnrom m) s =
      if c.chr.length = 0 then s.degradedRead .noChrRom
      else s.readArray c.chr (cnromChrIndex m.selectedChrBank a).toNat .chrRomOutOfRange := rfl

/-- NROM's CHR read (R175). -/
theorem portChrRd_nrom (c : Cartridge) (a : Word) (s : State) :
    portChrRd a c .nrom s =
      if c.chr.length = 0 then s.degradedRead .noChrRom
      else s.readArray c.chr a.toNat .chrRomOutOfRange := rfl

/-- Settles O40: NROM's CHR index is the address, and its writes are not looked at. -/
theorem nromChrAndWrites : Obligations.NromChrAndWrites := by
  intro s c a d h
  obtain ⟨hbyte, hpast, hnone⟩ := exec_chrRd_rom h (portChrRd_nrom c a s)
  exact ⟨hbyte, hpast, hnone, exec_prgWr_mapped h a d, exec_chrWr_mapped h a d⟩

/-- Settles O45: CNROM's CHR index is the OR of the address and the bank's base. -/
theorem cnromChrReadOrsTheBank : Obligations.CnromChrReadOrsTheBank := by
  intro s c m a e h he
  rw [he, ← cnromChrIndex_toNat]
  exact exec_chrRd_rom h (portChrRd_cnrom c m a s)

/-- Settles O43: the three cases of AxROM's CHR read. -/
theorem axromChrReadIsTheCharacterRam : Obligations.AxromChrReadIsTheCharacterRam := by
  intro s c m a h
  have hexec : exec (.chrRd a) s = .next (axromChrRd m a s) := exec_chrRd_mapped h a
  rw [hexec]
  refine ⟨fun ram b hram hlow hb => ?_, fun ram hram hhigh => ?_, fun hnone => ?_⟩
  · have hget : ram.getD a.toNat 0x00#8 = b := by rw [List.getD_eq_getElem?_getD, hb, Option.getD_some]
    simp only [axromChrRd, hram, if_pos hlow, hget]
    rfl
  · simp only [axromChrRd, hram, if_neg (Nat.not_lt.mpr hhigh)]
    rfl
  · simp only [axromChrRd, hnone]
    rfl

/-- Settles O44: the three cases of AxROM's CHR write. -/
theorem axromChrWriteStoresOneByte : Obligations.AxromChrWriteStoresOneByte := by
  intro s c m a v h
  have hexec : exec (.chrWr a v) s = .next (axromChrWr c m a v s) := exec_chrWr_mapped h a v
  rw [hexec]
  refine ⟨fun ram hram hsize hlow => ?_, fun ram hram hhigh => ?_, fun hnone => ?_⟩
  · refine ⟨ram.set a.toNat v, List.length_set.trans hsize, fun b => ?_, ?_⟩
    · rw [List.getElem?_set]
      by_cases hb : b = a.toNat
      · rw [if_pos hb.symm, if_pos hb, if_pos (by omega)]
      · rw [if_neg (Ne.symm hb), if_neg hb]
    · simp only [axromChrWr, hram, if_pos hlow]
      rfl
  · simp only [axromChrWr, hram, if_neg (Nat.not_lt.mpr hhigh)]
    rfl
  · simp only [axromChrWr, hnone]
    rfl

/-! ### AxROM's and CNROM's registers -/

/-- AxROM's PRG write at 0x8000 and above, in full (R194 to R196). -/
theorem exec_prgWr_axrom {s : State} {c : Cartridge} {m : AxromState} {a : Word} (h : s.stack = .mapped c (.axrom m))
    (ha : 0x8000 ≤ a.toNat) (d : Byte) :
    exec (.prgWr a d) s = .next { s with
      stack := .mapped c (.axrom { m with selectedPrgBank := d.extractLsb' 0 3, mirroringMode := oneScreenOf d })
      trace := s.trace ++
        (if s.callbackRegistered then [.mirroring (oneScreenMirroring (oneScreenOf d))] else [])
      result := some (.ok .empty) } := by
  rw [exec_prgWr_mapped h]
  simp only [portPrgWr, axromPrgWr, if_pos ha, State.mirroringHook_eq]
  rfl

/-- Settles O42: at 0x8000 and above both registers and the event follow the data; below it nothing does. -/
theorem axromPrgWriteSelectsBankAndMirroring : Obligations.AxromPrgWriteSelectsBankAndMirroring := by
  intro s c m a d h
  by_cases ha : 0x8000 ≤ a.toNat
  · have hmode : oneScreenMirroring (if d.toNat / 16 % 2 = 1 then .higher else .lower) =
        if d.toNat / 16 % 2 = 1 then .oneScreenHigher else .oneScreenLower := apply_ite oneScreenMirroring _ _ _
    rw [if_pos ha, exec_prgWr_axrom h ha, oneScreenOf_eq, hmode, extractLsb'_zero_eq_ofNat_mod]
    rfl
  · rw [if_neg ha, exec_prgWr_mapped h]
    simp only [portPrgWr, axromPrgWr, if_neg ha]
    rfl

/-- Settles O47: the two writes of R199, and the read through the bank the first one selects. -/
theorem axromTestableProperties : Obligations.AxromTestableProperties := by
  intro s t c m a h ha
  constructor
  · intro ht
    rw [exec_prgWr_axrom h ha] at ht
    have hstack : t.stack = .mapped c (.axrom { m with selectedPrgBank := 5, mirroringMode := .lower }) := by
      cases ht
      rfl
    have hindex : axromPrgIndex 5 0x0000#16 = 5 * 0x8000 := by decide
    obtain ⟨hsome, -⟩ := exec_prgRd_of_index hstack (congrArg (t.prgAt c) hindex)
    exact ⟨⟨_, mapper_mapped hstack, rfl⟩, hsome⟩
  · intro ht hcallback
    rw [exec_prgWr_axrom h ha, hcallback] at ht
    cases ht
    exact ⟨⟨_, rfl, rfl⟩, rfl⟩

/-- Settles O48: R226's mirrored reads, and the read through the bank the write selects. -/
theorem cnromTestableProperties : Obligations.CnromTestableProperties := by
  intro s c m h
  constructor
  · intro t u hsingle ht hu
    have hmirror : fixedPrgIndex true 0x8000#16 = fixedPrgIndex true 0xC000#16 := by decide
    have hport : portPrgRd 0x8000#16 c (.cnrom m) s = portPrgRd 0xC000#16 c (.cnrom m) s := by
      simp only [portPrgRd, cnromPrgRd, hsingle, hmirror]
    rw [exec_prgRd_mapped h, hport, ← exec_prgRd_mapped h, hu] at ht
    exact (Host.Outcome.next.inj ht).symm
  · intro t a ht
    rw [exec_prgWr_mapped h] at ht
    have hstack : t.stack = .mapped c (.cnrom { m with selectedChrBank := 2 }) := by
      cases ht
      rfl
    have hindex : (cnromChrIndex 2 0x0000#16).toNat = 2 * 0x2000 := by decide
    obtain ⟨hbyte, -, -⟩ := exec_chrRd_rom hstack (portChrRd_cnrom c { m with selectedChrBank := 2 } 0x0000#16 t)
    rw [hindex] at hbyte
    exact ⟨⟨_, mapper_mapped hstack, rfl⟩, hbyte⟩

end Sys2Proof.Machine

/-! ## What a transaction depends on (10_state.md R24, R45; 20_memory.md R70, R71; 45_addressing_modes.md R260, R262)

A transaction's next state is a change, fixed by what it reads, applied to the state it runs in. The statements that
no transaction reads the trace, the scratch registers or a bus byte outside its list put two states that agree on
those reads into this one rule. -/

namespace Sys2Proof.Machine

/-- The modes that write `absoluteAddress` (R24). -/
abbrev addressModes : List Instr := [.imm, .zp0, .zpx, .zpy, .abs, .abx, .aby, .ind, .izx, .izy]

/-- The registers after a transaction: PC past its operand bytes, and the one output it writes, if any (R108, R260). -/
def writeOutput (i : Instr) (address offset : Word) (operand : Byte) (c : CpuRegisters) : CpuRegisters :=
  { c with
    pc := c.pc + BitVec.ofNat 16 (operandBytes i)
    absoluteAddress := if i ∈ addressModes then address else c.absoluteAddress
    relativeOffset := if i = .rel then offset else c.relativeOffset
    fetchedOperand := if i = .imp then operand else c.fetchedOperand }

/-- The bus after a transaction (R251). -/
def busAfter (i : Instr) (bus : List Host.Cell) : List Host.Cell :=
  match i with
  | .busWr a v => Memory.write bus a.toNat v
  | _ => bus

/-- What a transaction does, apart from the state it does it to. -/
structure Change where
  stack : Stack
  callbackRegistered : Bool
  address : Word
  offset : Word
  operand : Byte
  events : List Event
  mark : Bool
  result : Result

/-- A change carried out in a state. -/
def Change.apply (d : Change) (i : Instr) (s : State) : State :=
  { s with
    stack := d.stack
    cpu := writeOutput i d.address d.offset d.operand s.cpu
    callbackRegistered := d.callbackRegistered
    bus := busAfter i s.bus
    trace := s.trace ++ d.events
    refused := s.refused || d.mark
    result := some d.result }

/-- `s'` agrees with `s` on everything the transaction `i` reads in `s`. -/
structure ReadsAlike (i : Instr) (s s' : State) : Prop where
  stack : s'.stack = s.stack
  callbackRegistered : s'.callbackRegistered = s.callbackRegistered
  alloc : s'.alloc = s.alloc
  pc : s'.cpu.pc = s.cpu.pc
  a : s'.cpu.a = s.cpu.a
  x : s'.cpu.x = s.cpu.x
  y : s'.cpu.y = s.cpu.y
  memRead : ∀ w ∈ busReads i s, s'.memRead w = s.memRead w

theorem ReadsAlike.refl (i : Instr) (s : State) : ReadsAlike i s s :=
  ⟨rfl, rfl, rfl, rfl, rfl, rfl, rfl, fun _ _ => rfl⟩

/-! ### The resolvers -/

/-- The address each mode computes from PC, the index registers and the bus (R264 to R274). -/
def resolvedAddress (i : Instr) (s : State) : Word :=
  let lo := s.memRead s.cpu.pc
  let hi := s.memRead (s.cpu.pc + 1)
  match i with
  | .imm => s.cpu.pc
  | .zp0 => zeroPage lo 0x00#8
  | .zpx => zeroPage lo s.cpu.x
  | .zpy => zeroPage lo s.cpu.y
  | .abs => pair hi lo
  | .abx => indexed (pair hi lo) s.cpu.x
  | .aby => indexed (pair hi lo) s.cpu.y
  | .ind => pair (s.memRead (indirectHigh hi lo)) (s.memRead (pair hi lo))
  | .izx => pair (s.memRead (zeroPageNext lo s.cpu.x)) (s.memRead (zeroPage lo s.cpu.x))
  | .izy => indexed (pair (izyPointer s).1 (izyPointer s).2) s.cpu.y
  | _ => 0#16

/-- The offset REL computes (R275). -/
def resolvedOffset (i : Instr) (s : State) : Word :=
  match i with
  | .rel => relative (s.memRead s.cpu.pc)
  | _ => 0#16

/-- The extra-cycle Bool each mode returns (R269, R271, R274); false for the others. -/
def resolvedExtra (i : Instr) (s : State) : Bool :=
  match i with
  | .abx => pageCross (resolvedAddress .abx s) (s.memRead (s.cpu.pc + 1))
  | .aby => pageCross (resolvedAddress .aby s) (s.memRead (s.cpu.pc + 1))
  | .izy => pageCross (resolvedAddress .izy s) (izyPointer s).1
  | _ => false

/-- Every resolver advances PC, writes its one output and returns its extra-cycle Bool (R260). -/
theorem exec_resolver {i : Instr} (hi : i ∈ resolvers) (s : State) :
    exec i s = .next ((s.setCpu (writeOutput i (resolvedAddress i s) (resolvedOffset i s) s.cpu.a s.cpu)).resolved
      (resolvedExtra i s)) := by
  cases i with
  | imp =>
    have hpc : s.cpu.pc + BitVec.ofNat 16 (operandBytes .imp) = s.cpu.pc := BitVec.add_zero s.cpu.pc
    rw [writeOutput, hpc]
    rfl
  | imm => rfl
  | zp0 => rfl
  | zpx => rfl
  | zpy => rfl
  | abs => exact exec_abs s
  | abx => exact congrArg _ (resolveIndexed_eq s s.cpu.x)
  | aby => exact congrArg _ (resolveIndexed_eq s s.cpu.y)
  | ind => exact exec_ind s
  | izx => exact exec_izx s
  | izy => exact exec_izy s
  | rel => exact exec_rel s
  | _ => simp at hi

/-- A resolver's output and extra-cycle Bool depend on nothing but its reads (R262). -/
theorem resolved_congr {i : Instr} {s s' : State} (hi : i ∈ resolvers) (h : ReadsAlike i s s') :
    resolvedAddress i s' = resolvedAddress i s ∧ resolvedOffset i s' = resolvedOffset i s ∧
      resolvedExtra i s' = resolvedExtra i s := by
  have hreads := h.memRead
  fin_cases hi <;> simp only [busReads, fetch16_eq, State.operandByte, List.forall_mem_cons] at hreads <;>
    simp only [resolvedAddress, resolvedOffset, resolvedExtra, izyPointer, h.pc, h.x, h.y, hreads, and_self]

/-! ### The other transactions -/

/-- In every state that reads alike, `f` is one and the same change. -/
def Follows (i : Instr) (s : State) (f : State → State) : Prop :=
  ∃ d : Change, ∀ s', ReadsAlike i s s' → f s' = d.apply i s'

/-- A transaction that is no resolver writes no register. -/
theorem writeOutput_of_notMem {i : Instr} (hi : i ∉ resolvers) (address offset : Word) (operand : Byte)
    (c : CpuRegisters) : writeOutput i address offset operand c = c := by
  have hbytes : operandBytes i = 0 := by
    cases i with
    | imm | zp0 | zpx | zpy | abs | abx | aby | ind | izx | izy | rel => simp at hi
    | _ => rfl
  simp only [List.mem_cons, List.not_mem_nil, or_false, not_or] at hi
  simp [writeOutput, hbytes, hi]

/-- A transaction that is no BUS_WR writes no bus byte. -/
theorem busAfter_of_ne {i : Instr} (hi : ∀ a v, i ≠ .busWr a v) (bus : List Host.Cell) : busAfter i bus = bus := by
  cases i with
  | busWr a v => exact absurd rfl (hi a v)
  | _ => rfl

section Rules

variable {i : Instr} {s : State}

theorem Follows.congr {f g : State → State} (hg : Follows i s g) (h : ∀ s', ReadsAlike i s s' → f s' = g s') :
    Follows i s f := by
  obtain ⟨d, hd⟩ := hg
  exact ⟨d, fun s' hs => (h s' hs).trans (hd s' hs)⟩

theorem follows_ite {f g : State → State} (p : Prop) [Decidable p] (hf : p → Follows i s f)
    (hg : ¬ p → Follows i s g) : Follows i s (fun s' => if p then f s' else g s') := by
  by_cases hp : p
  · simpa only [hp, if_true] using hf hp
  · simpa only [hp, if_false] using hg hp

variable (hi : i ∉ resolvers) (hbus : ∀ a v, i ≠ .busWr a v)

include hi hbus

/-- Outside the resolvers and BUS_WR a change is a stack, a callback mark, events, a sticky mark and a result. -/
theorem follows_of (k : Stack) (b : Bool) (events : List Event) (mark : Bool) (r : Result) {f : State → State}
    (hf : ∀ s', ReadsAlike i s s' → f s' = { s' with
      stack := k, callbackRegistered := b, trace := s'.trace ++ events, refused := s'.refused || mark
      result := some r }) : Follows i s f := by
  refine ⟨⟨k, b, 0, 0, 0, events, mark, r⟩, fun s' h => ?_⟩
  rw [hf s' h, Change.apply, writeOutput_of_notMem hi, busAfter_of_ne hbus]

theorem follows_answer (r : Result) : Follows i s fun s' => s'.answer r :=
  follows_of hi hbus s.stack s.callbackRegistered [] false r fun s' h => by
    rw [← h.stack, ← h.callbackRegistered, List.append_nil, Bool.or_false]
    rfl

theorem follows_refuse (r : RefuseReason) : Follows i s fun s' => s'.refuse r :=
  follows_of hi hbus s.stack s.callbackRegistered [] true (.refused r) fun s' h => by
    rw [← h.stack, ← h.callbackRegistered, List.append_nil, Bool.or_true]
    rfl

theorem follows_emit (e : Event) (v : Value) : Follows i s fun s' => (s'.emit e).ok v :=
  follows_of hi hbus s.stack s.callbackRegistered [e] false (.ok v) fun s' h => by
    rw [← h.stack, ← h.callbackRegistered, Bool.or_false]
    rfl

theorem follows_setStack (k : Stack) : Follows i s fun s' => (s'.setStack k).ok .empty :=
  follows_of hi hbus k s.callbackRegistered [] false (.ok .empty) fun s' h => by
    rw [← h.callbackRegistered, List.append_nil, Bool.or_false]
    rfl

theorem follows_setCallback (b : Bool) : Follows i s fun s' => (s'.setCallback b).ok .empty :=
  follows_of hi hbus s.stack b [] false (.ok .empty) fun s' h => by
    rw [← h.stack, List.append_nil, Bool.or_false]
    rfl

theorem follows_hook (k : Stack) (m : OneScreen) :
    Follows i s fun s' => ((s'.setStack k).mirroringHook m).ok .empty :=
  follows_of hi hbus k s.callbackRegistered
    (if s.callbackRegistered then [.mirroring (oneScreenMirroring m)] else []) false (.ok .empty) fun s' h => by
    rw [State.mirroringHook_eq, State.setStack_callbackRegistered, ← h.callbackRegistered, Bool.or_false]
    rfl

theorem follows_readArray (bytes : List Byte) (n : Nat) (k : LogKind) :
    Follows i s fun s' => s'.readArray bytes n k := by
  by_cases h : n < bytes.length
  · exact (follows_answer hi hbus _).congr fun s' _ => s'.readArray_of_lt bytes n k h
  · exact (follows_emit hi hbus _ _).congr fun s' _ => s'.readArray_of_le bytes n k (by omega)

/-- A mapper port reads the stack, and then what its variant's rule reads. -/
theorem follows_mapperPort {port : Cartridge → Mapper → State → State} (hport : ∀ c m, Follows i s (port c m)) :
    Follows i s (mapperPort port) := by
  cases hs : s.stack with
  | mapped c m => exact (hport c m).congr fun s' h => mapperPort_mapped (h.stack.trans hs) port
  | empty =>
    exact (follows_refuse hi hbus _).congr fun s' h =>
      mapperPort_unmapped (by simp [phase_empty (h.stack.trans hs)]) port
  | loaded c =>
    exact (follows_refuse hi hbus _).congr fun s' h =>
      mapperPort_unmapped (by simp [phase_loaded (h.stack.trans hs)]) port

/-- A construction reads the stack, and then what its own rule reads. -/
theorem follows_construct {build : Cartridge → State → State} (hbuild : ∀ c, Follows i s (build c)) :
    Follows i s (construct build) := by
  cases hs : s.stack with
  | loaded c => exact (hbuild c).congr fun s' h => construct_loaded (h.stack.trans hs) build
  | empty => exact (follows_refuse hi hbus .noCartridge).congr fun s' h => by simp only [construct, h.stack, hs]
  | mapped c m => exact (follows_refuse hi hbus .mapperActive).congr fun s' h => by simp only [construct, h.stack, hs]

theorem follows_portPrgRd (a : Word) (c : Cartridge) (m : Mapper) : Follows i s (portPrgRd a c m) := by
  cases m with
  | null => exact follows_answer hi hbus _
  | nrom => exact follows_readArray hi hbus _ _ _
  | axrom m => exact follows_readArray hi hbus _ _ _
  | cnrom m => exact follows_readArray hi hbus _ _ _

theorem follows_portChrRd (a : Word) (c : Cartridge) (m : Mapper) : Follows i s (portChrRd a c m) := by
  cases m with
  | null => exact follows_answer hi hbus _
  | nrom => exact follows_ite _ (fun _ => follows_emit hi hbus _ _) fun _ => follows_readArray hi hbus _ _ _
  | axrom m =>
    obtain ⟨bank, ram, mode⟩ := m
    cases ram with
    | none => exact follows_emit hi hbus _ _
    | some ram => exact follows_ite _ (fun _ => follows_answer hi hbus _) fun _ => follows_emit hi hbus _ _
  | cnrom m => exact follows_ite _ (fun _ => follows_emit hi hbus _ _) fun _ => follows_readArray hi hbus _ _ _

theorem follows_portPrgWr (a : Word) (v : Byte) (c : Cartridge) (m : Mapper) : Follows i s (portPrgWr a v c m) := by
  cases m with
  | null => exact follows_answer hi hbus _
  | nrom => exact follows_answer hi hbus _
  | axrom m => exact follows_ite _ (fun _ => follows_hook hi hbus _ _) fun _ => follows_answer hi hbus _
  | cnrom m => exact follows_setStack hi hbus _

theorem follows_portChrWr (a : Word) (v : Byte) (c : Cartridge) (m : Mapper) : Follows i s (portChrWr a v c m) := by
  cases m with
  | null => exact follows_answer hi hbus _
  | nrom => exact follows_answer hi hbus _
  | axrom m =>
    obtain ⟨bank, ram, mode⟩ := m
    cases ram with
    | none => exact follows_answer hi hbus _
    | some ram => exact follows_ite _ (fun _ => follows_setStack hi hbus _) fun _ => follows_emit hi hbus _ _
  | cnrom m => exact follows_answer hi hbus _

theorem follows_portGetMirr (c : Cartridge) (m : Mapper) : Follows i s (portGetMirr c m) := by
  cases m <;> exact follows_answer hi hbus _

theorem follows_buildMapper (c : Cartridge) : Follows i s (buildMapper c) := by
  cases hn : selectVariant c.mapperNumber with
  | none => exact (follows_refuse hi hbus .unsupportedMapper).congr fun s' h => by simp only [buildMapper, hn]
  | some kind =>
    cases kind with
    | null => exact (follows_setStack hi hbus _).congr fun s' h => by simp only [buildMapper, hn]; rfl
    | nrom => exact (follows_setStack hi hbus _).congr fun s' h => by simp only [buildMapper, hn]; rfl
    | cnrom => exact (follows_setStack hi hbus _).congr fun s' h => by simp only [buildMapper, hn]; rfl
    | axrom =>
      cases hm : constructAxrom s.alloc c with
      | error e => exact (follows_answer hi hbus _).congr fun s' h => buildMapper_axrom_error hn (h.alloc.symm ▸ hm)
      | ok m => exact (follows_setStack hi hbus _).congr fun s' h => buildMapper_axrom_ok hn (h.alloc.symm ▸ hm)

end Rules

/-! ### Every transaction -/

/-- In every state that reads alike, the transaction is one and the same change. -/
def Changes (i : Instr) (s : State) : Prop :=
  ∃ d : Change, ∀ s', ReadsAlike i s s' → exec i s' = .next (d.apply i s')

theorem Follows.changes {i : Instr} {s : State} {f : State → State} (hf : Follows i s f)
    (hexec : ∀ s', ReadsAlike i s s' → exec i s' = .next (f s')) : Changes i s := by
  obtain ⟨d, hd⟩ := hf
  exact ⟨d, fun s' h => (hexec s' h).trans (congrArg _ (hd s' h))⟩

theorem changes_of_mem_resolvers {i : Instr} (hi : i ∈ resolvers) (s : State) : Changes i s := by
  refine ⟨⟨s.stack, s.callbackRegistered, resolvedAddress i s, resolvedOffset i s, s.cpu.a, [], false,
    .ok (.bool (resolvedExtra i s))⟩, fun s' h => ?_⟩
  obtain ⟨haddress, hoffset, hextra⟩ := resolved_congr hi h
  have hbus : ∀ a v, i ≠ .busWr a v := by
    rintro a v rfl
    simp at hi
  rw [exec_resolver hi, haddress, hoffset, hextra, h.a, Change.apply, busAfter_of_ne hbus, List.append_nil,
    Bool.or_false, ← h.stack, ← h.callbackRegistered]
  rfl

theorem changes_busRd (a : Word) (s : State) : Changes (.busRd a) s := by
  have hi : Instr.busRd a ∉ resolvers := by simp
  refine (follows_answer hi nofun (.ok (.byte (s.memRead a)))).changes fun s' h => ?_
  rw [exec_busRd, h.memRead a (by simp [busReads])]
  rfl

theorem changes_busWr (a : Word) (v : Byte) (s : State) : Changes (.busWr a v) s := by
  refine ⟨⟨s.stack, s.callbackRegistered, 0, 0, 0, [], false, .ok .empty⟩, fun s' h => ?_⟩
  rw [exec_busWr, Change.apply, writeOutput_of_notMem (by simp), List.append_nil, Bool.or_false, ← h.stack,
    ← h.callbackRegistered]
  rfl

theorem changes_load (stream : List Byte) (s : State) : Changes (.load stream) s := by
  have hi : Instr.load stream ∉ resolvers := by simp
  by_cases hs : s.phase = .empty
  · have hstack := stack_of_phase_empty hs
    cases hp : parseImage s.alloc stream with
    | error e =>
      exact (follows_answer hi nofun (.loadError e)).changes fun s' h =>
        exec_load_error (h.stack.trans hstack) (h.alloc.symm ▸ hp)
    | ok c =>
      exact (follows_setStack hi nofun (.loaded c)).changes fun s' h =>
        exec_load_ok (h.stack.trans hstack) (h.alloc.symm ▸ hp)
  · exact (follows_refuse hi nofun .loadNotEmpty).changes fun s' h =>
      exec_load_refused ((views_eq_of_stack_eq h.stack).1 ▸ hs)

/-- A port's transaction is a change when the variant's rule is one. -/
theorem changes_of_port {i : Instr} {s : State} {port : Cartridge → Mapper → State → State} (hi : i ∉ resolvers)
    (hbus : ∀ a v, i ≠ .busWr a v) (hport : ∀ c m, Follows i s (port c m))
    (hexec : ∀ s', exec i s' = .next (mapperPort port s')) : Changes i s :=
  (follows_mapperPort hi hbus hport).changes fun s' _ => hexec s'

/-- Every transaction is one and the same change in all states that agree on what it reads. -/
theorem exec_changes (i : Instr) (s : State) : Changes i s := by
  by_cases hi : i ∈ resolvers
  · exact changes_of_mem_resolvers hi s
  cases i with
  | busRd a => exact changes_busRd a s
  | busWr a v => exact changes_busWr a v s
  | prgRd a => exact changes_of_port hi nofun (follows_portPrgRd hi nofun a) fun _ => rfl
  | chrRd a => exact changes_of_port hi nofun (follows_portChrRd hi nofun a) fun _ => rfl
  | prgWr a d => exact changes_of_port hi nofun (follows_portPrgWr hi nofun a d) fun _ => rfl
  | chrWr a d => exact changes_of_port hi nofun (follows_portChrWr hi nofun a d) fun _ => rfl
  | getMirr => exact changes_of_port hi nofun (follows_portGetMirr hi nofun) fun _ => rfl
  | hasXram =>
    exact changes_of_port (port := portHasXram) hi nofun (fun _ _ => follows_answer hi nofun _) fun _ => rfl
  | scanline =>
    exact changes_of_port (port := portScanline) hi nofun (fun _ _ => follows_answer hi nofun _) fun _ => rfl
  | load stream => exact changes_load stream s
  | mapNew => exact (follows_construct hi nofun (follows_buildMapper hi nofun)).changes fun _ _ => rfl
  | mapNewNull =>
    exact (follows_construct hi nofun fun c => follows_setStack hi nofun (.mapped c .null)).changes fun _ _ => rfl
  | cbSet d => exact (follows_setCallback hi nofun (d.getLsbD 0)).changes fun _ _ => rfl
  | _ => simp at hi

/-- The next state of a transaction, and that of any state it cannot tell from the first. -/
theorem exec_change_of_next {i : Instr} {s t : State} (h : exec i s = .next t) :
    ∃ d : Change, t = d.apply i s ∧ ∀ s', ReadsAlike i s s' → exec i s' = .next (d.apply i s') := by
  obtain ⟨d, hd⟩ := exec_changes i s
  have ht := hd s (.refl i s)
  rw [h] at ht
  exact ⟨d, Host.Outcome.next.inj ht, hd⟩

/-- Settles O26: the change of a resolver writes the register block by the mode's own output. -/
theorem resolversWritePcAndOneOutput : Obligations.ResolversWritePcAndOneOutput := by
  intro s i hi
  refine ⟨_, resolvedExtra i s, exec_resolver hi s, rfl, rfl, rfl, rfl, rfl, fun himp => if_neg himp,
    fun hrel => if_neg hrel, fun hother => if_neg ?_, fun hmode => ?_⟩
  · rcases hother with rfl | rfl
    · decide
    · decide
  · simp only [List.mem_cons, List.not_mem_nil, or_false, not_or] at hmode
    obtain ⟨habx, haby, hizy⟩ := hmode
    cases i with
    | abx => exact absurd rfl habx
    | aby => exact absurd rfl haby
    | izy => exact absurd rfl hizy
    | _ => rfl

/-- Settles O27: another bus that agrees on the listed reads is read alike. -/
theorem noReadAhead : Obligations.NoReadAhead := by
  intro s t i bus hi hreads h
  obtain ⟨d, rfl, hd⟩ := exec_change_of_next h
  have hbus (m : List Host.Cell) : busAfter i m = m := busAfter_of_ne hi m
  rw [hd { s with bus := bus } ⟨rfl, rfl, rfl, rfl, rfl, rfl, rfl, hreads⟩, Change.apply, Change.apply, hbus]

/-- Settles O55: the events are the change's own, and the trace is nothing a transaction reads. -/
theorem traceIsAppendOnlyAndNeverRead : Obligations.TraceIsAppendOnlyAndNeverRead := by
  intro s t i other h
  obtain ⟨d, rfl, hd⟩ := exec_change_of_next h
  exact ⟨d.events, rfl, hd { s with trace := other } ⟨rfl, rfl, rfl, rfl, rfl, rfl, rfl, fun _ _ => rfl⟩⟩

/-- Settles O56: the scratch registers are nothing a transaction reads, and the change writes each by its mode. -/
theorem scratchRegistersAreNeverRead : Obligations.ScratchRegistersAreNeverRead := by
  intro s t i w r f h
  obtain ⟨d, rfl, hd⟩ := exec_change_of_next h
  have hsame {α : Type} (p : Prop) [Decidable p] (x y z : α) :
      (if p then (if p then x else y) else z) = if p then x else z := by
    split <;> rfl
  rw [hd { s with cpu := { s.cpu with absoluteAddress := w, relativeOffset := r, fetchedOperand := f } }
    ⟨rfl, rfl, rfl, rfl, rfl, rfl, rfl, fun _ _ => rfl⟩]
  simp only [Change.apply, writeOutput, hsame]

/-! ### Reads (R70, R71) -/

/-- A read is refused, or returns a value, or degrades with one log event. -/
theorem exec_read_cases {i : Instr} {s t : State} {a : Word}
    (hi : i ∈ [Instr.busRd a, .prgRd a, .chrRd a, .getMirr, .hasXram, .scanline]) (h : exec i s = .next t) :
    (∃ r, t = s.refuse r) ∨ (∃ v, t = s.ok v) ∨ (∃ k, t = s.degradedRead k) := by
  cases exec_effect h with
  | portRefused hs hport => exact .inl ⟨_, rfl⟩
  | constructRefused r hbuild hs => exact .inl ⟨r, rfl⟩
  | busRead b => exact .inr (.inl ⟨_, rfl⟩)
  | portRead b v hport hs => exact .inr (.inl ⟨_, rfl⟩)
  | portIgnored b d hport hs hc => exact .inr (.inl ⟨_, rfl⟩)
  | mirroring m hs => exact .inr (.inl ⟨_, rfl⟩)
  | extendedRam b hs => exact .inr (.inl ⟨_, rfl⟩)
  | scanline hs => exact .inr (.inl ⟨_, rfl⟩)
  | portDegraded b k hport hs => exact .inr (.inr ⟨k, rfl⟩)
  | resolve c extra hmode ha hx hy => fin_cases hmode <;> simp at hi
  | _ => simp at hi

/-- Settles O59: the three cases of a read have one frame, and in it the read is the same change again. -/
theorem readsMutateNothingAndRepeat : Obligations.ReadsMutateNothingAndRepeat := by
  intro s t a i hi h
  have hframe : t = { s with trace := t.trace, refused := t.refused, result := t.result } ∧
      (t.trace = s.trace ∨ ∃ k, t.trace = s.trace ++ [.log k]) := by
    rcases exec_read_cases hi h with ⟨r, rfl⟩ | ⟨v, rfl⟩ | ⟨k, rfl⟩
    · exact ⟨rfl, .inl rfl⟩
    · exact ⟨rfl, .inl rfl⟩
    · exact ⟨rfl, .inr ⟨k, rfl⟩⟩
  obtain ⟨hshape, htrace⟩ := hframe
  have halike : ReadsAlike i s t := by
    rw [hshape]
    exact ⟨rfl, rfl, rfl, rfl, rfl, rfl, rfl, fun _ _ => rfl⟩
  obtain ⟨d, ht, hd⟩ := exec_change_of_next h
  have hresult : t.result = some d.result := congrArg State.result ht
  obtain ⟨-, -, hmark⟩ := refusalSetsTheStickyMarkAlone s t i h
  exact ⟨hshape, hmark, htrace, _, hd t halike, hresult.symm⟩

end Sys2Proof.Machine
